-- ==== Sys2Proof/Word.lean ====
section
/-! DEFINITION. The words the manual treats as bits: bytes of the host link, 16-bit words of the board
ports, cue counts, frame numbers and cue times (00, Conventions). -/

namespace Sys2Proof

/-- One byte of the host link. -/
abbrev Byte := BitVec 8

/-- One word of a board port. -/
abbrev Word := BitVec 16

/-- A cue count: a signed 16-bit integer, read with `toInt` (00, Cue values). -/
abbrev Cue := BitVec 16

/-- A frame number, wrapping at 65536 (00, Frames). -/
abbrev Frame := BitVec 16

/-- A cue time: microseconds from the last reset, wrapping at 2^32 (R1). -/
abbrev Instant := BitVec 32

end Sys2Proof
end

