-- ==== Sys2Proof/Config.lean ====
section
/-! DEFINITION. The fixed sizes of the hub, and the values the manual leaves open. An `opaque` constant
has no body that a proof can see, so a claim holds whatever the value is. -/

namespace Sys2Proof.Config

/-- Entries the ring of frame starts holds (R3). -/
def ringSize : Nat := 32

/-- Replies the reply queue holds (R179). -/
def replyQueueSize : Nat := 8

/-- Entries the coupled event queue holds (R140). -/
def eventQueueSize : Nat := 24

/-- Records the stamp FIFO holds (R164). -/
def stampFifoSize : Nat := 32

/-- Entries the observed-error window holds (R123). -/
def windowSize : Nat := 8

/-- Age, in frame starts, at which an outstanding echo is missed (R113). -/
def echoAgeLimit : Nat := 4

/-- Consecutive misses at which a RUNNING port goes LOST (R113). -/
def echoMissLimit : Nat := 3

/-- Largest latency in use, in microseconds (R120). -/
def latencyMax : Nat := 60000

/-- Largest declared delay, in microseconds (R112). -/
def declaredMax : Nat := 50000

/-- Largest correction in magnitude (R124). -/
def correctionMax : Nat := 10000

/-- The longest time from the kind word of a report to its last word, in microseconds: longer than any report
lasts (log 15). -/
def reportSpanMax : Nat := 2 ^ 30

/-- Idle time inside a candidate record after which the gap expires (R176). -/
def gapMicroseconds : Nat := 101

/-- Bound on the frames one event skips or passes over: the number of frame numbers. -/
def frameFuel : Nat := 65536

/-- FREE VALUE (log 16). Whether an EVENT_POST for the frame exactly 32768 from the current one is
answered TOO_LATE (yes) or BAD_VALUE (no): by the half-range rule that frame is neither before nor after
the current frame, and check 4 of R142 names no result for it. -/
opaque postAtHalfRangeIsLate : Bool

/-- FREE VALUE (log 17). Which of several destinations whose releases lie equally far before the instant
of the request the TOO_LATE detail of R143 names: an index into them, taken modulo their number. -/
opaque furthestAmongEqual : Nat → Nat

end Sys2Proof.Config
end

