-- ==== Sys2Proof/Syntax.lean ====
section
/-! DEFINITION. The commands the hub takes: one constructor for each row of spec/opcode_table.json, with
the fields that the rules and the layouts of chapter 11 give the command.

`dt` is the cue time in microseconds from the last command from outside to this one; rows of the hub's own
events between the two do not count (log 1). Such a row carries no `dt`: its instant is the hub's own (log 2). -/

namespace Sys2Proof

/-- The three board ports (00, Names and numbering). -/
inductive Port where
  | vision
  | sound
  | cab
  deriving DecidableEq, Repr

/-- The fields of a HUB_COMMAND beside the command code (11.2). -/
structure RampRequest where
  mask : Byte
  rampIn : Byte
  rampOut : Byte
  deriving DecidableEq, Repr

/-- The fields of SET_CLOCK (R5, 11.1). -/
structure ClockRequest where
  mask : Byte
  source : Byte
  frameLen : Word
  presentPhase : Word
  trimMax : Word
  lockWindow : Word
  nLock : Byte
  missLimit : Byte
  holdoverMax : Word
  deriving DecidableEq, Repr

/-- The fields of SET_CHANNEL (R51). -/
structure ChannelRequest where
  channel : Byte
  mask : Byte
  leadMax : Word
  staleLimit : Byte
  stalePolicy : Byte
  fadeFrames : Byte
  deriving DecidableEq, Repr

/-- The fields of SET_ROUTE (R57): a source is its kind code, then its number. -/
structure RouteRequest where
  route : Byte
  mask : Word
  sourceKind : Byte
  sourceNumber : Byte
  port : Byte
  slot : Byte
  gain : Cue
  offset : Cue
  lo : Cue
  hi : Cue
  rest : Cue
  slew : Word
  lead : Byte
  deriving DecidableEq, Repr

/-- The fields of SET_GENERATOR (R81). -/
structure GeneratorRequest where
  generator : Byte
  mask : Byte
  mode : Byte
  period : Word
  highTime : Word
  levelA : Cue
  levelB : Cue
  triggerLine : Byte
  deriving DecidableEq, Repr

/-- The fields of SET_PORT (R97). -/
structure PortRequest where
  port : Byte
  mask : Word
  enable : Byte
  essential : Byte
  slots : Byte
  width : Byte
  beatPeriod : Word
  leadSlot : Byte
  latencySource : Byte
  fixedLatency : Word
  guard : Word
  echoInterval : Byte
  skipLimit : Byte
  deriving DecidableEq, Repr

/-- The fields of SET_TRIGGERS (R159): a line mask and the 16 type codes. -/
structure TriggersRequest where
  mask : Word
  types : Vector Byte 16
  deriving DecidableEq, Repr

/-- The fields of SET_RESUME (R168): a condition mask and four pairs of line and type code. -/
structure ResumeRequest where
  mask : Byte
  conditions : Vector (Byte × Byte) 4
  deriving DecidableEq, Repr

/-- The fields of EVENT_POST (R142, 11.2). -/
structure PostRequest where
  eventTag : Byte
  kind : Byte
  shape : Byte
  amplitude : Cue
  duration : Byte
  destinations : Byte
  slipLimit : Byte
  frame : Frame
  deriving DecidableEq, Repr

/-- The commands. Each docstring names the row of spec/opcode_table.json. -/
inductive Instr where
  /-- POWER_ON: power-on, or release of the RESET line; the two strap pins as read then (R172). -/
  | powerOn (spd1 spd0 : Bool)
  /-- RESET: assertion of the RESET line. -/
  | reset (dt : Nat)
  /-- FRAME_START: the frame in progress reaches its frame end. -/
  | frameStart
  /-- FSYNC: a rising edge on FSYNC. -/
  | fsync (dt : Nat)
  /-- FRAME_MARK: a good FRAME_MARK record completes. -/
  | frameMark (dt : Nat)
  /-- MISSES: a frame start at which the miss count reaches MISS_LIMIT. -/
  | misses
  /-- HOLDOVER_EXPIRED: a frame start at which the holdover count reaches HOLDOVER_MAX. -/
  | holdoverExpired
  /-- SET_CLOCK. -/
  | setClock (dt : Nat) (tag : Byte) (q : ClockRequest)
  /-- NONE: HUB_COMMAND with command NONE. -/
  | cmdNone (dt : Nat) (tag : Byte) (q : RampRequest)
  /-- SETUP: HUB_COMMAND with command SETUP. -/
  | setup (dt : Nat) (tag : Byte) (q : RampRequest)
  /-- ARM: HUB_COMMAND with command ARM. -/
  | arm (dt : Nat) (tag : Byte) (q : RampRequest)
  /-- GO: HUB_COMMAND with command GO. -/
  | go (dt : Nat) (tag : Byte) (q : RampRequest)
  /-- PAUSE: HUB_COMMAND with command PAUSE. -/
  | pause (dt : Nat) (tag : Byte) (q : RampRequest)
  /-- RESUME: HUB_COMMAND with command RESUME. -/
  | resume (dt : Nat) (tag : Byte) (q : RampRequest)
  /-- HALT: HUB_COMMAND with command HALT. -/
  | halt (dt : Nat) (tag : Byte) (q : RampRequest)
  /-- SAMPLES: a good SAMPLES record of frame F_s, offset u_s and the pairs in record order. -/
  | samples (dt : Nat) (frame : Frame) (offset : Word) (pairs : List (Byte × Cue))
  /-- STALE_ENTRY: a frame start at which this channel enters STALE. -/
  | staleEntry (channel : Fin 48)
  /-- SET_CHANNEL. -/
  | setChannel (dt : Nat) (tag : Byte) (q : ChannelRequest)
  /-- SET_ROUTE. -/
  | setRoute (dt : Nat) (tag : Byte) (q : RouteRequest)
  /-- CLEAR_ROUTE. -/
  | clearRoute (dt : Nat) (tag : Byte) (route : Byte)
  /-- GET_ROUTE. -/
  | getRoute (dt : Nat) (tag : Byte) (route : Byte)
  /-- SET_GENERATOR. -/
  | setGenerator (dt : Nat) (tag : Byte) (q : GeneratorRequest)
  /-- START_GENERATOR. -/
  | startGenerator (dt : Nat) (tag : Byte) (generator : Byte)
  /-- STOP_GENERATOR. -/
  | stopGenerator (dt : Nat) (tag : Byte) (generator : Byte)
  /-- PULSE_END: a frame start at which this generator's pulse ends. -/
  | pulseEnd (generator : Fin 4)
  /-- SET_PORT. -/
  | setPort (dt : Nat) (tag : Byte) (q : PortRequest)
  /-- GET_PORT. -/
  | getPort (dt : Nat) (tag : Byte) (port : Byte)
  /-- RELEASE: the release instant of N_b is reached. -/
  | release (port : Port)
  /-- SKIP: the latest start of N_b is reached with its packet unstarted. -/
  | skip (port : Port)
  /-- PARTIAL: the latest start of a waiting CONTINUE packet is reached. -/
  | partialEnd (port : Port)
  /-- PACKET_COMPLETE: the trailer beat of the packet in flight ends. -/
  | packetComplete (port : Port)
  /-- WAIT_ASSERT. -/
  | waitAssert (dt : Nat) (port : Port)
  /-- WAIT_RELEASE. -/
  | waitRelease (dt : Nat) (port : Port)
  /-- ABORT_ASSERT. -/
  | abortAssert (dt : Nat) (port : Port)
  /-- ABORT_RELEASE. -/
  | abortRelease (dt : Nat) (port : Port)
  /-- ECHO_INTERVAL: a frame start at which the interval count reaches echo_interval. -/
  | echoInterval (port : Port)
  /-- ECHO_REPLY: a report whose kind word arrived `span` microseconds before its last word, which `dt` gives. -/
  | echoReply (dt : Nat) (port : Port) (span : Nat) (number delay turnaround : Word)
  /-- ECHO_MISSED: a frame start at which the outstanding echo reaches age 4. -/
  | echoMissed (port : Port)
  /-- PRESENTED: a report of the presentation of one frame. -/
  | presented (dt : Nat) (port : Port) (span : Nat) (frame : Frame)
  /-- INPUT: a report of the cab line word. Only the CAB port takes it (R116). -/
  | input (dt : Nat) (port : Port) (span : Nat) (lines : Word)
  /-- DISCARDED_KIND_WORD: one inbound word, that names no report where a kind word is expected. -/
  | discardedKindWord (dt : Nat) (port : Port) (word : Word)
  /-- SET_TRIGGERS. -/
  | setTriggers (dt : Nat) (tag : Byte) (q : TriggersRequest)
  /-- SET_RESUME. -/
  | setResume (dt : Nat) (tag : Byte) (q : ResumeRequest)
  /-- STAMP_NOW. -/
  | stampNow (dt : Nat) (tag : Byte)
  /-- READ_STAMPS. -/
  | readStamps (dt : Nat) (tag : Byte) (count : Byte)
  /-- EVENT_POST. -/
  | eventPost (dt : Nat) (tag : Byte) (q : PostRequest)
  /-- DESTINATION_RELEASE: the release of one destination of the entry with this tag is reached. -/
  | destinationRelease (eventTag : Byte) (port : Port)
  /-- MISSED: the latest start of one DUE destination of the entry with this tag is reached. -/
  | missed (eventTag : Byte) (port : Port)
  /-- EVENT_CANCEL. -/
  | eventCancel (dt : Nat) (tag : Byte) (eventTag : Byte)
  /-- READ_OUTCOMES. -/
  | readOutcomes (dt : Nat) (tag : Byte) (count : Byte)
  /-- GET_STATUS. -/
  | getStatus (dt : Nat) (tag : Byte)
  /-- UNKNOWN_KIND: a good record of this KIND, TAG and payload. -/
  | unknownKind (dt : Nat) (kind tag : Byte) (payload : List Byte)
  /-- CANDIDATE_FAILS: the received byte that makes the open candidate fail. -/
  | candidateFails (dt : Nat) (data : Byte) (framingError : Bool)
  /-- GAP: no start bit has begun within 100 microseconds inside a candidate. -/
  | gap
  /-- RECORD_SENT: the transmitter finishes the last byte of the record on the line. `dt` is read only for a
  record whose length the manual does not give (log 8). -/
  | recordSent (dt : Nat)
  /-- BYTE_RECEIVED: one byte received on the host link. -/
  | byteReceived (dt : Nat) (data : Byte) (framingError : Bool)
  /-- REPORT_BAD_SUM: a report with these words (kind word and fields) and this sum word. -/
  | reportBadSum (dt : Nat) (port : Port) (span : Nat) (words : List Word) (sum : Word)
  /-- PAYLOAD_BEAT_END: a payload beat of the CUE or CONTINUE packet in flight ends. -/
  | payloadBeatEnd (port : Port)
  deriving DecidableEq, Repr

end Sys2Proof
end

