-- ==== Sys2Proof/Machine/State.lean ====
section
/-! DEFINITION. The state of the hub: plain data, holding every piece of state the manual gives its ten
blocks, and the state right after reset. INVENTORY.md lists each field with its rule. -/

namespace Sys2Proof.Machine

/-! ### Cue clock (chapter 1) -/

inductive ClockState where
  | free
  | acquire
  | locked
  | holdover
  deriving DecidableEq, Repr

inductive ClockSource where
  | fsync
  | frameMark
  deriving DecidableEq, Repr

/-- The clock settings of 1.5. -/
structure ClockSettings where
  source : ClockSource
  frameLen : Nat
  presentPhase : Nat
  trimMax : Nat
  lockWindow : Nat
  nLock : Nat
  missLimit : Nat
  holdoverMax : Nat
  deriving DecidableEq, Repr

/-- One entry of the ring: a frame number and its start instant (R3). -/
structure RingEntry where
  frame : Frame
  start : Instant
  deriving DecidableEq, Repr

structure Clock where
  cueTime : Instant
  st : ClockState
  current : Frame
  frameEnd : Instant
  captured : Bool
  trim : Int
  lastE : Int
  goodCount : Nat
  missCount : Nat
  holdoverCount : Nat
  renumber : Bool
  /-- Newest first: the head is the entry of the current frame. -/
  ring : List RingEntry
  set : ClockSettings
  deriving DecidableEq, Repr

/-! ### Hub controller (chapter 2) -/

inductive HubState where
  | setup
  | armed
  | rampIn
  | live
  | rampOut
  | paused
  | halted
  deriving DecidableEq, Repr

inductive HaltReason where
  | none
  | command
  | clockLost
  | portLost (port : Port)
  deriving DecidableEq, Repr

structure Controller where
  st : HubState
  reason : HaltReason
  f : Nat
  rampIn : Nat
  rampOut : Nat
  deriving DecidableEq, Repr

/-! ### Stream channels (chapter 3) -/

structure Sample where
  value : Cue
  instant : Instant
  deriving DecidableEq, Repr

/-- A channel's state with the samples that are present in it (table of 3.1). -/
inductive Stream where
  | empty
  | single (newest : Sample)
  | tracking (older newest : Sample)
  | stale (newest : Sample) (age : Nat)
  deriving DecidableEq, Repr

inductive StalePolicy where
  | hold
  | fade
  | zero
  deriving DecidableEq, Repr

structure Channel where
  stream : Stream
  leadMax : Nat
  staleLimit : Nat
  stalePolicy : StalePolicy
  fadeFrames : Nat
  deriving DecidableEq, Repr

/-! ### Route table (chapter 4) -/

inductive Source where
  | none
  | stream (channel : Fin 48)
  | genLevel (generator : Fin 4)
  | genRate (generator : Fin 4)
  | const
  deriving DecidableEq, Repr

structure Route where
  source : Source
  /-- `none` is the port NONE: the route is not in use (R55). -/
  port : Option Port
  slot : Nat
  gain : Cue
  offset : Cue
  lo : Cue
  hi : Cue
  rest : Cue
  slew : Nat
  lead : Bool
  last : Cue
  deriving DecidableEq, Repr

/-! ### Waveform generators (chapter 5) -/

inductive GeneratorMode where
  | off
  | periodic
  | oneShot
  deriving DecidableEq, Repr

inductive RunState where
  | idle
  | pulse
  deriving DecidableEq, Repr

inductive Anchor where
  | absent
  | pending
  | at (instant : Instant)
  deriving DecidableEq, Repr

structure Generator where
  mode : GeneratorMode
  /-- 0 stands for 65536 microseconds. -/
  period : Word
  highTime : Word
  levelA : Cue
  levelB : Cue
  /-- The line code as held: 0 .. 15, 0xFF for NONE, or in SETUP any other code (R81). -/
  triggerLine : Byte
  runState : RunState
  triggerAt : Option Instant
  anchor : Anchor
  deriving DecidableEq, Repr

/-! ### Board ports (chapters 6 and 7) -/

inductive PortState where
  | off
  | probing
  | running
  | lost
  deriving DecidableEq, Repr

inductive LatencySource where
  | declared
  | observed
  | fixed
  deriving DecidableEq, Repr

/-- The SET_PORT record of 6.2. -/
structure PortConfig where
  enable : Bool
  essential : Bool
  slots : Nat
  width : Nat
  beatPeriod : Nat
  leadSlot : Nat
  latencySource : LatencySource
  fixedLatency : Nat
  guard : Nat
  echoInterval : Nat
  skipLimit : Nat
  deriving DecidableEq, Repr

/-- An outstanding echo; `sent` holds its send instant once it has one (R110, R111). -/
structure OutstandingEcho where
  number : Byte
  age : Nat
  sent : Option Instant
  deriving DecidableEq, Repr

structure EchoRecord where
  next : Byte
  outstanding : Option OutstandingEcho
  missCount : Nat
  intervalCount : Nat
  lastRoundTrip : Option Int
  turnaround : Option Nat
  declared : Nat
  lineDelay : Nat
  deriving DecidableEq, Repr

inductive PacketKind where
  | cue
  | continuation
  | event
  | neutral
  | echo
  deriving DecidableEq, Repr

/-- What a packet carries on the line: the header items of R101 and the values in send order, with the
latest start it keeps (R106) and, for an EVENT packet, the tag of its entry. -/
structure Packet where
  kind : PacketKind
  frame : Frame
  firstSlot : Nat
  count : Nat
  degraded : Bool
  ramping : Bool
  echoNumber : Byte
  values : List Word
  latest : Option Instant
  eventTag : Option Byte
  deriving DecidableEq, Repr

/-- The in-flight record of R103. -/
structure InFlight where
  packet : Packet
  start : Instant
  delivered : Nat
  deriving DecidableEq, Repr

/-- A due ECHO packet: its number, and its frame number once it has started (R101). -/
structure DueEcho where
  number : Byte
  frame : Option Frame
  deriving DecidableEq, Repr

/-- The delivery scheduler while ACTIVE: N_b, its instants, and whether its CUE packet is due (R126,
R127). -/
structure Schedule where
  next : Frame
  release : Instant
  latest : Instant
  due : Bool
  deriving DecidableEq, Repr

/-- One entry of the observed-error window (R123). -/
structure WindowEntry where
  frame : Frame
  error : Int
  deriving DecidableEq, Repr

/-- The words of the report in progress on the inbound lanes, kind word first, and the instant of the
kind word (R187). -/
structure Inbound where
  words : List Word
  arrival : Instant
  deriving DecidableEq, Repr

structure BoardPort where
  st : PortState
  cfg : PortConfig
  echo : EchoRecord
  inFlight : Option InFlight
  /-- CONTINUE packets due on the line. -/
  conts : List Packet
  /-- The NEUTRAL packet due on the line. -/
  neutral : Option Packet
  /-- The ECHO packet due on the line. -/
  echoDue : Option DueEcho
  wait : Bool
  abort : Bool
  rxErrors : Nat
  inbound : Option Inbound
  /-- The instant of the entry to PROBING, from which the port takes inbound words; `none` once every report in
  progress has begun after it (R187, log 15). -/
  openedAt : Option Instant
  /-- Oldest first. -/
  window : List WindowEntry
  latCue : Nat
  latEvent : Nat
  /-- `none` is IDLE. -/
  sched : Option Schedule
  skipCount : Nat
  partialCount : Nat
  deriving DecidableEq, Repr

structure Ports where
  vision : BoardPort
  sound : BoardPort
  cab : BoardPort
  deriving DecidableEq, Repr

/-! ### Coupled event queue (chapter 8) -/

/-- A destination's outcome, and its progress while it is PENDING (R141). -/
inductive DestState where
  | waiting (release latest : Instant)
  | due (latest : Instant)
  | inFlight (latest : Instant)
  | sent
  | missed
  | dropped
  deriving DecidableEq, Repr

structure Destination where
  port : Port
  state : DestState
  amplitudeSent : Option Cue
  starts : Nat
  /-- The packet as fixed at its first start: a resend carries the same words (R148). -/
  packet : Option Packet
  deriving DecidableEq, Repr

inductive EntryState where
  | active
  | done
  deriving DecidableEq, Repr

structure Entry where
  tag : Byte
  kind : Byte
  shape : Byte
  amplitude : Cue
  duration : Byte
  frame : Frame
  slipLimit : Nat
  slipUsed : Nat
  st : EntryState
  dests : List Destination
  deriving DecidableEq, Repr

/-! ### Cab input unit (chapter 9) -/

inductive TriggerType where
  | none
  | rising
  | falling
  | either
  | high
  | low
  deriving DecidableEq, Repr

/-- A resume condition: `held` is the condition flag of R168. -/
structure ResumeCondition where
  line : Fin 16
  type : TriggerType
  held : Bool
  deriving DecidableEq, Repr

inductive StampSource where
  | cabLine (line : Fin 16)
  | linkRequest
  deriving DecidableEq, Repr

inductive EdgeKind where
  | rising
  | falling
  | request
  deriving DecidableEq, Repr

structure Stamp where
  source : StampSource
  edge : EdgeKind
  frame : Frame
  offset : Nat
  gap : Bool
  deriving DecidableEq, Repr

structure CabUnit where
  previous : Word
  triggers : Vector TriggerType 16
  conditions : Vector ResumeCondition 4
  /-- Oldest first. -/
  fifo : List Stamp
  gapPending : Bool
  deriving DecidableEq, Repr

/-! ### Host link (chapter 10): notices -/

inductive StateCause where
  | powerOn
  | command
  | rampDone
  | clockLost
  | portLost (port : Port)
  | resumeCondition (condition : Fin 4)
  | resumeRefused (condition : Fin 4) (clock : ClockState) (notRunning : List Port)
  deriving DecidableEq, Repr

/-- The STATE notice of R38. -/
structure StateNotice where
  new : HubState
  left : HubState
  cause : StateCause
  reason : HaltReason
  f : Nat
  frame : Frame
  deriving DecidableEq, Repr

inductive ClockCause where
  | arm
  | setupEntry
  | lock
  | badCapture
  | misses
  | holdoverExpired
  deriving DecidableEq, Repr

/-- The CLOCK notice of R17. -/
structure ClockNotice where
  new : ClockState
  left : ClockState
  frame : Frame
  lastE : Int
  cause : ClockCause
  deriving DecidableEq, Repr

inductive PortCause where
  | arm
  | setupEntry
  | echoAnswered
  | echoMissed
  deriving DecidableEq, Repr

/-- The PORT notice of R119. -/
structure PortNotice where
  port : Port
  new : PortState
  left : PortState
  cause : PortCause
  frame : Frame
  lineDelay : Nat
  declared : Nat
  vision : PortState
  sound : PortState
  cab : PortState
  deriving DecidableEq, Repr

/-- The LATE notice of R131. -/
structure LateNotice where
  port : Port
  skipped : Frame
  skipCount : Nat
  latency : Nat
  guard : Nat
  frame : Frame
  deriving DecidableEq, Repr

inductive Outcome where
  | pending
  | sent
  | missed
  | dropped
  deriving DecidableEq, Repr

inductive Progress where
  | waiting
  | due
  | inFlight
  deriving DecidableEq, Repr

/-- The OUTCOMES notice of R157. -/
structure OutcomesNotice where
  tag : Byte
  presentation : Frame
  outcomes : List (Port × Outcome)
  doneCount : Nat
  frame : Frame
  deriving DecidableEq, Repr

/-- The STAMPS notice of R167. -/
structure StampsNotice where
  stamp : Stamp
  occupancy : Nat
  frame : Frame
  deriving DecidableEq, Repr

inductive Notice where
  | state (n : StateNotice)
  | clock (n : ClockNotice)
  | port (n : PortNotice)
  | late (n : LateNotice)
  | outcomes (n : OutcomesNotice)
  | stamps (n : StampsNotice)
  deriving DecidableEq, Repr

/-- A notice held in a slot, with its merge count (R181). -/
structure Held (α : Type) where
  content : α
  merge : Nat
  deriving DecidableEq, Repr

structure NoticeSlots where
  state : Option (Held StateNotice)
  clock : Option (Held ClockNotice)
  port : Option (Held PortNotice)
  late : Option (Held LateNotice)
  outcomes : Option (Held OutcomesNotice)
  stamps : Option (Held StampsNotice)
  deriving DecidableEq, Repr

/-- The FRAME_START record of R16. -/
structure FrameStartRecord where
  frame : Frame
  clock : ClockState
  lastE : Int
  hub : HubState
  deriving DecidableEq, Repr

/-! ### Host link: replies -/

/-- The result codes of R180. -/
inductive Result where
  | ok
  | wrongState
  | badValue
  | badConfig
  | notReady
  | slotTaken
  | noEntry
  | queueFull
  | tagInUse
  | tooLate
  | inProgress
  | unknownKind
  | badLength
  deriving DecidableEq, Repr

/-- The items of the configuration check, each with its index (R23). -/
inductive ConfigItem where
  | noPort
  | essentialDisabled (port : Port)
  | routePort (route : Fin 64)
  | routeSlot (route : Fin 64)
  | triggerLine (generator : Fin 4)
  deriving DecidableEq, Repr

/-- The detail of a HUB_COMMAND reply (R20). -/
inductive HubDetail where
  | none
  | config (item : ConfigItem)
  | notReady (clock : ClockState) (notRunning : List Port)
  deriving DecidableEq, Repr

/-- The checks of R58, in their order. -/
inductive RouteCheck where
  | source
  | port
  | slot
  | limits
  | slew
  | lead
  deriving DecidableEq, Repr

inductive RouteDetail where
  | none
  | check (failing : RouteCheck)
  | taken (route : Fin 64)
  deriving DecidableEq, Repr

/-- The detail of a refused EVENT_POST (R142, R143). -/
inductive PostDetail where
  | none
  | notEnabled (port : Port)
  | held (st : EntryState)
  | doneEntries (n : Nat)
  | unreachable (lastTried : Frame) (port : Port)
  deriving DecidableEq, Repr

/-- A destination as EVENT_CANCEL reports it (R153). -/
structure DestinationReport where
  port : Port
  outcome : Outcome
  progress : Option Progress
  deriving DecidableEq, Repr

/-- A destination as READ_OUTCOMES reports it (R156). -/
structure OutcomeReport where
  port : Port
  outcome : Outcome
  amplitudeSent : Option Cue
  starts : Nat
  deriving DecidableEq, Repr

structure EntryReport where
  tag : Byte
  kind : Byte
  frame : Frame
  slipUsed : Nat
  dests : List OutcomeReport
  deriving DecidableEq, Repr

/-- The echo record as GET_PORT returns it: the outstanding echo's number, age and whether it has been sent
(R98). -/
structure EchoReport where
  next : Byte
  outstanding : Option (Byte × Nat × Bool)
  missCount : Nat
  lastRoundTrip : Option Int
  turnaround : Option Nat
  declared : Nat
  lineDelay : Nat
  deriving DecidableEq, Repr

/-- What GET_PORT returns (R98). -/
structure PortReport where
  cfg : PortConfig
  st : PortState
  echo : EchoReport
  wait : Bool
  abort : Bool
  inFlight : Option (PacketKind × Frame)
  rxErrors : Nat
  latency : Nat
  skipCount : Nat
  partialCount : Nat
  deriving DecidableEq, Repr

/-- A port's items in GET_STATUS (R184). -/
structure PortStatus where
  st : PortState
  latency : Nat
  lineDelay : Nat
  skipCount : Nat
  partialCount : Nat
  rxErrors : Nat
  deriving DecidableEq, Repr

/-- What GET_STATUS returns (R184). -/
structure StatusReport where
  hub : HubState
  reason : HaltReason
  clock : ClockState
  frame : Frame
  lastE : Int
  vision : PortStatus
  sound : PortStatus
  cab : PortStatus
  linkErrors : Nat
  overruns : Nat
  discards : Nat
  entries : Nat
  doneEntries : Nat
  stamps : Nat
  deriving DecidableEq, Repr

/-- The items a reply carries after its result code, as the rule of its request names them. The manual
gives no byte layout for most of them, so they are held as items (log 20). -/
inductive ReplyBody where
  | bare
  | badLength (len : Nat)
  | hub (st : HubState) (f : Nat) (reason : HaltReason) (rampIn rampOut : Nat) (detail : HubDetail)
  | clock (held : ClockSettings)
  | channel (number : Byte) (held : Option Channel)
  | route (index : Byte) (held : Option Route) (inUse : Bool) (detail : RouteDetail)
  | portConfig (number : Byte) (held : Option PortConfig)
  | portReport (number : Byte) (held : Option PortReport)
  | generator (index : Byte) (held : Option Generator) (rate : Int) (modeHeld : Option GeneratorMode)
  | triggers (types : Vector TriggerType 16) (previous : Word)
  | conditions (held : Vector ResumeCondition 4)
  | post (tag : Byte) (admitted : Option (Frame × Nat)) (entries doneEntries : Nat) (detail : PostDetail)
  | cancel (frame : Frame) (dests : List DestinationReport)
  | outcomes (entries : List EntryReport) (doneLeft active : Nat)
  | stampNow (frame : Frame) (offset : Nat) (stored : Bool) (occupancy : Nat)
  | stamps (records : List Stamp) (left : Nat) (gapPending : Bool)
  | status (report : StatusReport)
  deriving DecidableEq, Repr

/-- A reply: its KIND, the request's TAG, the result code and the items (R180). -/
structure Reply where
  kind : Byte
  tag : Byte
  result : Result
  body : ReplyBody
  deriving DecidableEq, Repr

/-! ### Host link: framer, transmitter and counts -/

inductive LineRate where
  | one
  | two
  | four
  deriving DecidableEq, Repr

inductive FramerState where
  | hunt
  | len
  | kind
  | tag
  | payload
  | crcHigh
  | crcLow
  deriving DecidableEq, Repr

/-- A byte as received: its data and whether its stop bit was sampled low (R172). -/
structure RxByte where
  data : Byte
  framingError : Bool
  deriving DecidableEq, Repr

/-- The receive framer (R173). `lastAt` is the instant of the last byte it took from the line, and
`startBit` says that a start bit has begun since (R176). -/
structure Framer where
  st : FramerState
  buffer : List RxByte
  lastAt : Instant
  startBit : Bool
  deriving DecidableEq, Repr

/-- The transmitter: IDLE, or SENDING one record. A reply being sent is the head of the reply queue,
where it holds its place (R179). -/
inductive Transmitter where
  | idle
  | frameStart (record : FrameStartRecord)
  | reply
  | notice (notice : Notice) (merge : Nat)
  deriving DecidableEq, Repr

structure Link where
  rate : LineRate
  framer : Framer
  replies : List Reply
  slots : NoticeSlots
  frameStart : Option FrameStartRecord
  tx : Transmitter
  /-- The instant at which the record on the line started; not read while the transmitter is IDLE. -/
  txStart : Instant
  linkErrors : Nat
  overruns : Nat
  deriving DecidableEq, Repr

/-! ### The whole hub -/

/-- MODEL's own: the orders the manual leaves open inside one frame start (log 5, log 9). -/
structure Choice where
  /-- The FRAME_START record is formed before the controller's ramp step (R16). -/
  recordFirst : Bool
  /-- The CLOCK_LOST halt is taken before the ramp step (R35). -/
  haltFirst : Bool
  /-- The schedulers and the event queue, with the builds they lead to, are taken before the ramp step,
  the ageing and the generators (R31, R66). -/
  buildsFirst : Bool
  /-- Records placed on an IDLE transmitter are chosen among at the end of the event, not as each is
  placed (R183). -/
  lateStart : Bool
  /-- The port that takes the frame start first (R36). -/
  firstPort : Port
  deriving DecidableEq, Repr

structure State where
  clock : Clock
  ctrl : Controller
  channels : Vector Channel 48
  discards : Nat
  routes : Vector Route 64
  gens : Vector Generator 4
  ports : Ports
  queue : List Entry
  cab : CabUnit
  link : Link
  inReset : Bool
  /-- MODEL's own: the choices of the coming frame starts; on an empty list the default one. -/
  choices : List Choice
  /-- MODEL's own: the microseconds that rows of the hub's own events have taken since the last command from
  outside (log 1). -/
  ownTime : Nat
  /-- The commands that wait, first in, first out. -/
  pending : List Instr
  deriving DecidableEq, Repr

/-- The hub has no fault: a refused request is answered, a bad record is counted, a lost clock or port
halts the hub. All of these are next states. -/
inductive Fault where
  deriving DecidableEq, Repr

inductive Refusal where
  /-- Raised by `exec` alone, for a command that has no meaning yet: safe. No arm raises it. -/
  | notModelled (mnemonic : String)
  deriving DecidableEq, Repr

/-! ### Values after reset -/

namespace Reset

def clock : Clock where
  cueTime := 0
  st := .free
  current := 0
  frameEnd := 2000
  captured := false
  trim := 0
  lastE := 0
  goodCount := 0
  missCount := 0
  holdoverCount := 0
  renumber := false
  ring := [⟨0, 0⟩]
  set := ⟨.fsync, 2000, 0, 20, 50, 8, 3, 100⟩

def controller : Controller := ⟨.setup, .none, 0, 100, 100⟩

def channel : Channel := ⟨.empty, 0, 10, .hold, 50⟩

def route : Route where
  source := .none
  port := .none
  slot := 0
  gain := 4096
  offset := 0
  lo := 0x8000
  hi := 0x7FFF
  rest := 0
  slew := 0
  lead := false
  last := 0

def generator : Generator where
  mode := .off
  period := 10000
  highTime := 5000
  levelA := 0
  levelB := 0
  triggerLine := 0xFF
  runState := .idle
  triggerAt := none
  anchor := .absent

def echo : EchoRecord := ⟨0, none, 0, 0, none, none, 0, 0⟩

/-- A port after reset, from its essential flag, its largest slot count and its transit time. -/
def port (essential : Bool) (slots latCue : Nat) : BoardPort where
  st := .off
  cfg := ⟨true, essential, slots, 1, 2, 0, .declared, 0, 200, 50, 4⟩
  echo := echo
  inFlight := none
  conts := []
  neutral := none
  echoDue := none
  wait := false
  abort := false
  rxErrors := 0
  inbound := none
  openedAt := none
  window := []
  latCue := latCue
  latEvent := 14
  sched := none
  skipCount := 0
  partialCount := 0

def ports : Ports := ⟨port false 12 30, port false 20 46, port true 32 70⟩

def condition : ResumeCondition := ⟨0, .none, false⟩

def cabUnit : CabUnit :=
  ⟨0, Vector.replicate 16 .none, Vector.replicate 4 condition, [], false⟩

def slots : NoticeSlots := ⟨none, none, none, none, none, none⟩

/-- The STATE notice with cause POWER_ON (R38, R39). -/
def notice : StateNotice := ⟨.setup, .setup, .powerOn, .none, 0, 0⟩

/-- The link after reset: the POWER_ON notice has started (R185). -/
def link : Link where
  rate := .one
  framer := ⟨.hunt, [], 0, false⟩
  replies := []
  slots := slots
  frameStart := none
  tx := .notice (.state notice) 0
  txStart := 0
  linkErrors := 0
  overruns := 0

end Reset

/-- The hub right after reset (R18, R39, R53, R54, R78, R93, R95, R139, R158, R171, R185). -/
def State.reset : State where
  clock := Reset.clock
  ctrl := Reset.controller
  channels := Vector.replicate 48 Reset.channel
  discards := 0
  routes := Vector.replicate 64 Reset.route
  gens := Vector.replicate 4 Reset.generator
  ports := Reset.ports
  queue := []
  cab := Reset.cabUnit
  link := Reset.link
  inReset := false
  choices := []
  ownTime := 0
  pending := []

end Sys2Proof.Machine
end

