-- ==== Sys2Proof/Machine/Ops.lean ====
section
/-! DEFINITION. The shared operations: arithmetic and instants, updates of one part of the state, the
notice slots, the transmitter and the reply queue. -/

namespace Sys2Proof.Machine

/-! ### Arithmetic (00, Conventions) -/

/-- Division that rounds to the nearest integer, halves away from zero; `b` is positive. -/
def roundDiv (a : Int) (b : Nat) : Int :=
  if 0 ≤ a then (2 * a + b) / (2 * b) else -((2 * (-a) + b) / (2 * b))

/-- Ceiling of `a / b`, toward the greater value; `b` is positive. -/
def ceilDivInt (a : Int) (b : Nat) : Int := -((-a) / (b : Int))

/-- Ceiling of `a / b`. -/
def ceilDiv (a b : Nat) : Nat := (a + b - 1) / b

def clampInt (lo hi x : Int) : Int := max lo (min hi x)

/-- Saturating to 16 bits. -/
def saturate (x : Int) : Cue := BitVec.ofInt 16 (clampInt (-32768) 32767 x)

/-- A count that rises by `k` and stops at `top`. -/
def countUp (top k n : Nat) : Nat := min top (n + k)

/-! ### Instants and frames -/

/-- A duration in microseconds as a cue time. -/
def micro (n : Nat) : Instant := BitVec.ofNat 32 n

/-- `b` less `a` as a signed difference of cue times (R1). -/
def diff (b a : Instant) : Int := (b - a).toInt

/-- The instant `t` has been reached at `now`. -/
def reached (t now : Instant) : Bool := decide (0 ≤ diff now t)

/-- The instant `t` lies before `now` (R1). -/
def past (t now : Instant) : Bool := decide (0 < diff now t)

/-- The distance from frame `a` to frame `b`, modulo 65536 (R2). -/
def frameDist (a b : Frame) : Nat := (b - a).toNat

/-- Frame `b` is after frame `a` by the half-range rule (R2). -/
def frameAfter (a b : Frame) : Bool := decide (1 ≤ frameDist a b ∧ frameDist a b ≤ 32767)

/-! ### Tables of fixed size -/

/-- `f` applied to every element. -/
def mapTable {α β : Type} {n : Nat} (f : α → β) (v : Vector α n) : Vector β n :=
  ⟨⟨v.toList.map f⟩, by simp⟩

/-! ### Updates of one part of the state -/

def Ports.get (ps : Ports) : Port → BoardPort
  | .vision => ps.vision
  | .sound => ps.sound
  | .cab => ps.cab

def Ports.set (ps : Ports) (p : Port) (b : BoardPort) : Ports :=
  match p with
  | .vision => { ps with vision := b }
  | .sound => { ps with sound := b }
  | .cab => { ps with cab := b }

def allPorts : List Port := [.vision, .sound, .cab]

namespace State

/-- The instant of the event being taken. -/
def now (s : State) : Instant := s.clock.cueTime

def port (s : State) (p : Port) : BoardPort := s.ports.get p

def withClock (s : State) (c : Clock) : State := { s with clock := c }

def withCtrl (s : State) (c : Controller) : State := { s with ctrl := c }

def withChannels (s : State) (v : Vector Channel 48) : State := { s with channels := v }

def withDiscards (s : State) (n : Nat) : State := { s with discards := n }

def withRoutes (s : State) (v : Vector Route 64) : State := { s with routes := v }

def withGens (s : State) (v : Vector Generator 4) : State := { s with gens := v }

def withPort (s : State) (p : Port) (b : BoardPort) : State := { s with ports := s.ports.set p b }

def withQueue (s : State) (q : List Entry) : State := { s with queue := q }

def withCab (s : State) (c : CabUnit) : State := { s with cab := c }

def withLink (s : State) (l : Link) : State := { s with link := l }

def withChoices (s : State) (c : List Choice) : State := { s with choices := c }

def withOwnTime (s : State) (n : Nat) : State := { s with ownTime := n }

/-- The choice in force: that of the coming frame start (log 5). -/
def choice (s : State) : Choice := s.choices.headD ⟨false, false, false, false, .vision⟩

end State

/-! ### Notice slots and the transmitter (R181 to R183) -/

/-- A notice placed in its slot: an unsent one is replaced and the merge count rises (R181). -/
def placeIn {α : Type} (slot : Option (Held α)) (content : α) : Option (Held α) :=
  match slot with
  | none => some ⟨content, 0⟩
  | some h => some ⟨content, countUp 255 1 h.merge⟩

/-- The first non-empty slot in class order, with the slots after its notice has started (R183). -/
def NoticeSlots.take (n : NoticeSlots) : Option (Notice × Nat × NoticeSlots) :=
  match n.state, n.clock, n.port, n.late, n.outcomes, n.stamps with
  | some h, _, _, _, _, _ => some (.state h.content, h.merge, { n with state := none })
  | none, some h, _, _, _, _ => some (.clock h.content, h.merge, { n with clock := none })
  | none, none, some h, _, _, _ => some (.port h.content, h.merge, { n with port := none })
  | none, none, none, some h, _, _ => some (.late h.content, h.merge, { n with late := none })
  | none, none, none, none, some h, _ => some (.outcomes h.content, h.merge, { n with outcomes := none })
  | none, none, none, none, none, some h => some (.stamps h.content, h.merge, { n with stamps := none })
  | none, none, none, none, none, none => none

/-- The transmit arbiter of R183 at now: FRAME_START, then the oldest reply, then the first notice. -/
def Link.arbitrate (now : Instant) (l : Link) : Link :=
  match l.frameStart with
  | some r => { l with frameStart := none, tx := .frameStart r, txStart := now }
  | none =>
    if l.replies.isEmpty then
      match l.slots.take with
      | some (n, merge, slots) => { l with slots := slots, tx := .notice n merge, txStart := now }
      | none => { l with tx := .idle }
    else { l with tx := .reply, txStart := now }

/-- An IDLE transmitter starts the record the arbiter chooses, if any waits (R183). -/
def Link.kick (now : Instant) (l : Link) : Link := if l.tx = .idle then l.arbitrate now else l

/-- A record has been placed: on an IDLE transmitter it starts at once, or at the end of the event when
`late` (log 9). -/
def Link.placed (now : Instant) (late : Bool) (l : Link) : Link := if late then l else l.kick now

namespace State

/-- The transmitter decides at the end of an event. -/
def kick (s : State) : State := s.withLink (s.link.kick s.now)

def placeSlots (s : State) (n : NoticeSlots) : State :=
  s.withLink (Link.placed s.now s.choice.lateStart { s.link with slots := n })

def placeState (s : State) (n : StateNotice) : State :=
  s.placeSlots { s.link.slots with state := placeIn s.link.slots.state n }

def placeClock (s : State) (n : ClockNotice) : State :=
  s.placeSlots { s.link.slots with clock := placeIn s.link.slots.clock n }

def placePort (s : State) (n : PortNotice) : State :=
  s.placeSlots { s.link.slots with port := placeIn s.link.slots.port n }

def placeLate (s : State) (n : LateNotice) : State :=
  s.placeSlots { s.link.slots with late := placeIn s.link.slots.late n }

def placeOutcomes (s : State) (n : OutcomesNotice) : State :=
  s.placeSlots { s.link.slots with outcomes := placeIn s.link.slots.outcomes n }

def placeStamps (s : State) (n : StampsNotice) : State :=
  s.placeSlots { s.link.slots with stamps := placeIn s.link.slots.stamps n }

/-- The FRAME_START record takes its slot, replacing an unsent one (R182). -/
def placeFrameStart (s : State) (r : FrameStartRecord) : State :=
  s.withLink (Link.placed s.now s.choice.lateStart { s.link with frameStart := some r })

/-- A reply joins the tail of the reply queue (R179). -/
def pushReply (s : State) (r : Reply) : State :=
  s.withLink (Link.kick s.now { s.link with replies := s.link.replies ++ [r] })

end State

/-! ### Requests and replies (R178 to R180) -/

/-- What the owner of a request answers: the state after it, the result code and the reply's items. -/
structure Answer where
  state : State
  result : Result
  body : ReplyBody

/-- The KIND of the reply to a request (11.1): bit 7 set. -/
def replyKind (kind : Byte) : Byte := kind ||| 0x80

/-- Steps 2 and 5 of R178: with 8 replies queued the request is not carried out and the overrun count
rises; otherwise its owner acts and the reply joins the queue. -/
def answer (kind tag : Byte) (owner : State → Answer) (s : State) : State :=
  if Config.replyQueueSize ≤ s.link.replies.length then
    s.withLink { s.link with overruns := countUp 65535 1 s.link.overruns }
  else
    let a := owner s
    a.state.pushReply ⟨replyKind kind, tag, a.result, a.body⟩

end Sys2Proof.Machine
end

