-- ==== Sys2Proof/Machine/Time.lean ====
section
/-! DEFINITION. The cue clock (chapter 1): the ring, starts and presentation instants, captures, and the
clock's part of a frame start. -/

namespace Sys2Proof.Machine

namespace Clock

/-- The start of the current frame: the newest entry of the ring (R3). -/
def start (c : Clock) : Instant :=
  match c.ring with
  | e :: _ => e.start
  | [] => 0

/-- The start that the ring holds for a frame (R3). -/
def ringStart (c : Clock) (f : Frame) : Option Instant :=
  (c.ring.find? (fun e => e.frame == f)).map (·.start)

/-- start(F) by the three cases of R4. -/
def startOf (c : Clock) (f : Frame) : Option Instant :=
  let d := frameDist c.current f
  if d = 0 then some c.start
  else if d ≤ 32767 then some (c.start + micro (d * c.set.frameLen))
  else c.ringStart f

/-- P(F): start(F) plus PRESENT_PHASE (R4). -/
def presentation (c : Clock) (f : Frame) : Option Instant :=
  (c.startOf f).map (· + micro c.set.presentPhase)

/-- P(F) for a frame that the hub delivers. Such a frame is always the current one or after it, so P(F)
is there (log 19). -/
def presentationOr (c : Clock) (f : Frame) (other : Instant) : Instant :=
  (c.presentation f).getD other

/-- The number of the frame that begins at the next frame start (R2). -/
def nextFrame (c : Clock) : Frame := if c.renumber then 0 else c.current + 1

/-- The ring after a frame start at the instant now (R3). -/
def nextRing (c : Clock) : List RingEntry :=
  if c.renumber then [⟨0, c.cueTime⟩]
  else (⟨c.nextFrame, c.cueTime⟩ :: c.ring).take Config.ringSize

/-- A frame start at the instant now: number, ring, captured, trim and frame end (R2, R3). -/
def beginFrame (c : Clock) : Clock :=
  { c with
    current := c.nextFrame
    ring := c.nextRing
    captured := false
    trim := 0
    frameEnd := c.cueTime + micro c.set.frameLen
    renumber := false }

/-- The clock enters HOLDOVER (R14). DEDUCED: the miss count stays as it was (log 24). -/
def toHoldover (c : Clock) : Clock :=
  { c with st := .holdover, goodCount := 0, holdoverCount := 0 }

/-- The clock state after the frame that ends; `captured` says whether it took a capture (R12, R14,
R15). DEDUCED: an expiry of HOLDOVER leaves the holdover count and the miss count as they stand (log 24). -/
def countFrame (captured : Bool) (c : Clock) : Clock :=
  match c.st with
  | .free => c
  | .acquire => if captured then c else { c with goodCount := 0 }
  | .locked =>
    if captured then c
    else
      let c := { c with missCount := countUp 15 1 c.missCount }
      if c.set.missLimit ≤ c.missCount then c.toHoldover else c
  | .holdover =>
    let c := { c with holdoverCount := countUp 1000 1 c.holdoverCount }
    if c.set.holdoverMax ≤ c.holdoverCount then
      { c with st := .acquire, goodCount := 0, renumber := false }
    else if captured then c
    else { c with goodCount := 0 }

/-- The clock's part of a frame start. -/
def frameStart (c : Clock) : Clock := c.beginFrame.countFrame c.captured

/-- The phase of an edge at the instant now (R8). -/
def phase (c : Clock) : Nat := (c.cueTime - c.start).toNat

/-- The phase folded about the middle of the frame (R8). -/
def folded (c : Clock) : Int :=
  if 2 * c.phase < c.set.frameLen then (c.phase : Int) else (c.phase : Int) - c.set.frameLen

/-- A capture is good when |e| ≤ LOCK_WINDOW (R10). -/
def isGood (c : Clock) : Bool := decide (c.folded.natAbs ≤ c.set.lockWindow)

/-- The capture of R8 is written. -/
def recordCapture (c : Clock) : Clock := { c with captured := true, lastE := c.folded }

/-- The trim of R9. -/
def applyTrim (e : Int) (c : Clock) : Clock :=
  let t := clampInt (-(c.set.trimMax : Int)) c.set.trimMax e
  { c with trim := t, frameEnd := c.start + BitVec.ofInt 32 (c.set.frameLen + t) }

/-- One more good capture: with N_LOCK of them the clock locks (R12, R15). DEDUCED: LOCK leaves the good count
and the holdover count as they stand (log 24). -/
def addGood (c : Clock) : Clock :=
  let c := { c with goodCount := countUp 31 1 c.goodCount }
  if c.set.nLock ≤ c.goodCount then { c with st := .locked, missCount := 0 } else c

/-- What a capture that does not jump does to the clock state (R12, R14, R15). -/
def judgeCapture (good : Bool) (c : Clock) : Clock :=
  match c.st, good with
  | .free, _ => c
  | .acquire, true => c.addGood
  | .acquire, false => { c with goodCount := 0 }
  | .locked, true => { c with missCount := 0 }
  | .locked, false => c.toHoldover
  | .holdover, true => c.addGood
  | .holdover, false => { c with goodCount := 0 }

/-- A capture jumps when it is bad and the clock is in ACQUIRE (R13). -/
def jumps (c : Clock) : Bool := c.st = .acquire && !c.isGood

/-- The capture of an edge at the instant now, less the frame start it may lead to (R8 to R15). -/
def capture (c : Clock) : Clock :=
  if c.jumps then { c.recordCapture with goodCount := 0 }
  else (c.recordCapture.applyTrim c.folded).judgeCapture c.isGood

/-- SETUP entry (R11). -/
def enterSetup (c : Clock) : Clock :=
  { c with st := .free, goodCount := 0, missCount := 0, holdoverCount := 0, renumber := false }

/-- ARM accepted (R11). -/
def arm (c : Clock) : Clock := { c with st := .acquire, goodCount := 0, renumber := true }

/-- A change of FRAME_LEN re-fixes the frame in progress (R6). -/
def refix (c : Clock) : Clock :=
  { c with trim := 0, frameEnd := c.start + micro c.set.frameLen }

end Clock

namespace State

def clockNotice (s : State) (left : ClockState) (cause : ClockCause) : ClockNotice :=
  ⟨s.clock.st, left, s.clock.current, s.clock.lastE, cause⟩

/-- The CLOCK notice for a change of clock state, if there was one (R17). -/
def noteClock (s : State) (left : ClockState) (cause : ClockCause) : State :=
  if s.clock.st = left then s else s.placeClock (s.clockNotice left cause)

/-- The clock's part of a frame start, with its CLOCK notice. -/
def clockFrameStart (s : State) : State :=
  (s.withClock s.clock.frameStart).noteClock s.clock.st
    (if s.clock.st = .locked then .misses else .holdoverExpired)

/-- A capture at the instant now, with its CLOCK notice. -/
def clockCapture (s : State) : State :=
  (s.withClock s.clock.capture).noteClock s.clock.st
    (if s.clock.st = .locked then .badCapture else .lock)

end State

end Sys2Proof.Machine
end

