-- ==== Sys2Proof/Machine/Channels.lean ====
section
/-! DEFINITION. The stream channels (chapter 3): samples, ageing and the effective value. -/

namespace Sys2Proof.Machine

namespace Stream

/-- A newer sample (R45). -/
def newer (x : Sample) : Stream → Stream
  | .empty => .single x
  | .single n => .tracking n x
  | .tracking _ n => .tracking n x
  | .stale _ _ => .single x

/-- An equal sample replaces v1 (R46). -/
def equal (v : Cue) : Stream → Stream
  | .empty => .empty
  | .single n => .single ⟨v, n.instant⟩
  | .tracking o n => .tracking o ⟨v, n.instant⟩
  | .stale n a => .stale ⟨v, n.instant⟩ a

/-- The newest sample, when one is present. -/
def newest : Stream → Option Sample
  | .empty => none
  | .single n => some n
  | .tracking _ n => some n
  | .stale n _ => some n

/-- The stale_age: 0 outside STALE (R48). -/
def staleAge : Stream → Nat
  | .stale _ a => a
  | _ => 0

/-- A pair compared with the channel by the instant of its record: the channel after it, and whether the
pair was discarded (R44 to R46). A STALE channel of age 255 takes every pair as newer. -/
def take (x : Sample) (s : Stream) : Stream × Bool :=
  match s.newest with
  | none => (s.newer x, false)
  | some n =>
    if s.staleAge = 255 then (s.newer x, false)
    else if 0 < diff x.instant n.instant then (s.newer x, false)
    else if x.instant = n.instant then (s.equal x.value, false)
    else (s, true)

/-- A sample whose instant is `t1` is older than the limit at `now` (R47). -/
def tooOld (now t1 : Instant) (limit frameLen : Nat) : Bool :=
  decide ((limit * frameLen : Nat) < diff now t1)

/-- Ageing at a frame start at `now` (R47, R48). -/
def age (now : Instant) (limit frameLen : Nat) (s : Stream) : Stream :=
  match s with
  | .empty => .empty
  | .single n => if tooOld now n.instant limit frameLen then .stale n 0 else s
  | .tracking _ n => if tooOld now n.instant limit frameLen then .stale n 0 else s
  | .stale n a => .stale n (countUp 255 1 a)

end Stream

namespace Channel

def age (now : Instant) (frameLen : Nat) (c : Channel) : Channel :=
  { c with stream := c.stream.age now c.staleLimit frameLen }

/-- Whether the channel enters STALE at a frame start at `now` (R47). -/
def goesStale (now : Instant) (frameLen : Nat) (c : Channel) : Bool :=
  match c.stream with
  | .single n => Stream.tooOld now n.instant c.staleLimit frameLen
  | .tracking _ n => Stream.tooOld now n.instant c.staleLimit frameLen
  | _ => false

/-- SETUP entry: the channel is EMPTY and keeps its settings (R54). -/
def clear (c : Channel) : Channel := { c with stream := .empty }

/-- The fading value of R50. -/
def fadeValue (c : Channel) (v1 : Cue) (age : Nat) : Int :=
  let m := min age c.fadeFrames
  roundDiv (v1.toInt * ((c.fadeFrames : Int) - m)) c.fadeFrames

/-- The value a STALE channel's policy gives (R49). -/
def staleValue (c : Channel) (v1 : Cue) (age : Nat) : Int :=
  match c.stalePolicy with
  | .hold => v1.toInt
  | .fade => c.fadeValue v1 age
  | .zero => 0

end Channel

namespace State

/-- The start that R41 fixes for the frame of a SAMPLES record, with the length that limits its offset
(R42), or none when the frame is not accepted. -/
def sampleWindow (c : Clock) (f : Frame) : Option (Instant × Int) :=
  let ahead := frameDist c.current f
  let behind := frameDist f c.current
  if ahead = 0 then some (c.start, diff c.frameEnd c.start)
  else if ahead = 1 then some (c.start + micro c.set.frameLen, (c.set.frameLen : Int))
  else if 1 ≤ behind ∧ behind ≤ 31 then
    match c.ringStart f, c.ringStart (f + 1) with
    | some a, some b => some (a, diff b a)
    | _, _ => none
  else none

/-- The instant of an accepted record (R42). -/
def sampleInstant (start : Instant) (length : Int) (offset : Word) : Instant :=
  start + BitVec.ofInt 32 (if length ≤ (offset.toNat : Int) then length - 1 else offset.toNat)

/-- One pair of an accepted record (R43 to R46). -/
def takePair (instant : Instant) (s : State) (pair : Byte × Cue) : State :=
  if h : pair.1.toNat < 48 then
    let c := s.channels[pair.1.toNat]
    let (stream, discarded) := c.stream.take ⟨pair.2, instant⟩
    if discarded then s.withDiscards (countUp 65535 1 s.discards)
    else s.withChannels (s.channels.set pair.1.toNat { c with stream := stream })
  else s.withDiscards (countUp 65535 1 s.discards)

/-- The stream channels take a SAMPLES record (R40 to R46). -/
def takeSamples (frame : Frame) (offset : Word) (pairs : List (Byte × Cue)) (s : State) : State :=
  if s.ctrl.st = .setup then s.withDiscards (countUp 65535 pairs.length s.discards)
  else
    match sampleWindow s.clock frame with
    | none => s.withDiscards (countUp 65535 pairs.length s.discards)
    | some (start, length) => pairs.foldl (takePair (sampleInstant start length offset)) s

/-- Ageing of every channel at a frame start (R47, R48). -/
def ageChannels (s : State) : State :=
  s.withChannels (mapTable (Channel.age s.now s.clock.set.frameLen) s.channels)

end State

end Sys2Proof.Machine
end

