-- ==== Sys2Proof/Machine/Generators.lean ====
section
/-! DEFINITION. The waveform generators (chapter 5): level and rate, triggers, anchors and pulse ends. -/

namespace Sys2Proof.Machine

namespace Generator

/-- The period in use: a held 0 stands for 65536 (05, 5.1). -/
def periodInUse (g : Generator) : Nat := if g.period = 0 then 65536 else g.period.toNat

/-- The level of a PERIODIC generator at P (R85). -/
def periodicLevel (g : Generator) (p : Instant) : Cue :=
  match g.anchor with
  | .at a =>
    if (diff p a).emod g.periodInUse < (g.highTime.toNat : Int) then g.levelA else g.levelB
  | _ => g.levelB

/-- The level of a ONE_SHOT generator at P (R86). DESIGN CHOICE: trigger_at is kept after the pulse without
a bound and high_time is read as held, so an ended pulse shows again 2^32 microseconds after its trigger, or
under a high_time lengthened since (log 35). -/
def pulseLevel (g : Generator) (p : Instant) : Cue :=
  match g.triggerAt with
  | some t => if 0 ≤ diff p t ∧ diff p t < (g.highTime.toNat : Int) then g.levelA else g.levelB
  | none => g.levelB

/-- The level at P (R80). -/
def level (g : Generator) (p : Instant) : Int :=
  match g.mode with
  | .off => 0
  | .periodic => (g.periodicLevel p).toInt
  | .oneShot => (g.pulseLevel p).toInt

/-- The rate in units of 0.1 Hz (R80, R92). -/
def rate (g : Generator) : Int :=
  match g.mode with
  | .periodic => (saturate (roundDiv 10000000 g.periodInUse)).toInt
  | _ => 0

/-- A one-shot trigger at the instant `t`, taken by a ONE_SHOT generator that is IDLE (R87, R88). -/
def trigger (t : Instant) (g : Generator) : Generator :=
  if g.mode = .oneShot ∧ g.runState = .idle then
    { g with runState := .pulse, triggerAt := some t }
  else g

/-- STOP_GENERATOR (R91). -/
def stop (g : Generator) : Generator :=
  if g.mode = .oneShot then { g with runState := .idle, triggerAt := none } else g

/-- The change of mode of R82; `frameStart` is the start of the current frame. -/
def changeMode (new : GeneratorMode) (frameStart : Instant) (g : Generator) : Generator :=
  if g.mode = new then g
  else
    { g with
      mode := new
      runState := .idle
      triggerAt := none
      anchor := if new = .periodic then .at frameStart else .absent }

/-- Whether the pulse ends at a frame start whose presentation instant is `p` (R90). -/
def pulseEnds (p : Instant) (g : Generator) : Bool :=
  match g.mode, g.runState, g.triggerAt with
  | .oneShot, .pulse, some t => decide ((g.highTime.toNat : Int) ≤ diff p t)
  | _, _, _ => false

/-- The anchor after a frame start at `now`; `renumbering` is the frame start that begins frame 0 (R84).
DESIGN CHOICE: a pending anchor waits for frame 0, through SETUP too (log 36). -/
def advanceAnchor (renumbering : Bool) (now : Instant) (g : Generator) : Anchor :=
  match g.mode, g.anchor with
  | .periodic, .pending => if renumbering then .at now else .pending
  | .periodic, .at a =>
    .at (a + BitVec.ofInt 32 (diff now a / g.periodInUse * g.periodInUse))
  | _, a => a

/-- A frame start at `now`, whose presentation instant is `p` (R84, R90). -/
def frameStart (renumbering : Bool) (now p : Instant) (g : Generator) : Generator :=
  { g with
    anchor := g.advanceAnchor renumbering now
    runState := if g.pulseEnds p then .idle else g.runState }

/-- SETUP entry (R93). DESIGN CHOICE: a pending anchor stays pending (log 36). -/
def enterSetup (g : Generator) : Generator := { g with runState := .idle, triggerAt := none }

/-- ARM accepted: the anchor of a PERIODIC generator is pending (R84, R93). -/
def arm (g : Generator) : Generator :=
  if g.mode = .periodic then { g with anchor := .pending } else g

end Generator

namespace State

/-- P of the frame that has just begun (R90). -/
def currentPresentation (s : State) : Instant := s.clock.start + micro s.clock.set.presentPhase

/-- The generators at a frame start (R84, R90). -/
def frameStartGenerators (renumbering : Bool) (s : State) : State :=
  s.withGens (mapTable (Generator.frameStart renumbering s.now s.currentPresentation) s.gens)

/-- A trigger offered at `t` to every generator whose trigger line is `line` (R88). -/
def offerTrigger (line : Fin 16) (t : Instant) (s : State) : State :=
  s.withGens (mapTable (fun g => if g.triggerLine.toNat = line.val then g.trigger t else g) s.gens)

end State

end Sys2Proof.Machine
end

