-- ==== Sys2Proof/Machine/Cues.lean ====
section
/-! DEFINITION. The cue computation (chapter 4): the six stages of a route and the slot values of a
packet. -/

namespace Sys2Proof.Machine

namespace Route

/-- Whether the route feeds a slot of port `p` below `n` (R55, R64). -/
def feeds (p : Port) (n : Nat) (r : Route) : Bool := r.port = some p && decide (r.slot < n)

/-- Stage 1 for a TRACKING channel with lead enabled (R67, R68). -/
def predict (leadMax : Nat) (o n : Sample) (p : Instant) : Int :=
  let d := (diff n.instant o.instant).toNat
  let lead := clampInt 0 leadMax (diff p n.instant)
  (saturate (n.value.toInt + roundDiv ((n.value.toInt - o.value.toInt) * lead) d)).toInt

/-- The value a channel gives a route at P, or none when it is EMPTY (R49, R65). -/
def channelValue (lead : Bool) (c : Channel) (p : Instant) : Option Int :=
  match c.stream with
  | .empty => none
  | .single n => some n.value.toInt
  | .tracking o n => some (if lead then predict c.leadMax o n p else n.value.toInt)
  | .stale n age => some (c.staleValue n.value age)

/-- Stage 2 (R69). -/
def scale (r : Route) (x : Int) : Cue := saturate (roundDiv (x * r.gain.toInt) 4096 + r.offset.toInt)

/-- Stages 1 and 2: s, or none for a route without a value (R65, R69, R74). -/
def scaled (r : Route) (channels : Vector Channel 48) (gens : Vector Generator 4) (p : Instant) :
    Option Cue :=
  match r.source with
  | .none => none
  | .stream n => (channelValue r.lead channels[n] p).map r.scale
  | .genLevel g => some (r.scale (gens[g].level p))
  | .genRate g => some (r.scale gens[g].rate)
  | .const => some r.offset

/-- Stages 3 and 6: the clamp to lo .. hi (R70, R73). -/
def clamp (r : Route) (x : Int) : Int := clampInt r.lo.toInt r.hi.toInt x

/-- Stage 4: the ramp (R71). -/
def ramp (r : Route) (f : Nat) (s : Int) : Int :=
  r.rest.toInt + roundDiv ((s - r.rest.toInt) * f) 256

/-- Stage 5: the slew (R72). DESIGN CHOICE: with slew 32767 a swing of 65535 takes three builds, as this
stage moves it, though the table of R77 says two (log 34). -/
def limitSlew (r : Route) (x : Int) : Int :=
  if r.slew = 0 then x
  else if (r.slew : Int) < x - r.last.toInt then r.last.toInt + r.slew
  else if (r.slew : Int) < r.last.toInt - x then r.last.toInt - r.slew
  else x

/-- The value of the route's slot at a build for P with ramp fraction `f` (R64 to R74). -/
def compute (channels : Vector Channel 48) (gens : Vector Generator 4) (f : Nat) (p : Instant)
    (r : Route) : Cue :=
  let entering :=
    match r.scaled channels gens p with
    | none => r.rest.toInt
    | some s => r.clamp s.toInt
  BitVec.ofInt 16 (r.clamp (r.limitSlew (r.ramp f entering)))

end Route

/-- The value of one slot of a port: that of the route in use that names it, or 0 (R56, R64). -/
def slotValue (routes : List Route) (value : Route → Cue) (p : Port) (slot : Nat) : Cue :=
  match routes.find? (fun r => r.port == some p && r.slot == slot) with
  | some r => value r
  | none => 0

/-- The slots of a port in send order: from the lead slot, wrapping (R100). -/
def sendOrder (cfg : PortConfig) : List Nat :=
  (List.range cfg.slots).map (fun j => (cfg.leadSlot + j) % cfg.slots)

/-- The routes after a build of port `p` with `n` slots: each route the build runs writes its last
(R73, R75). -/
def buildRoutes (s : State) (p : Port) (presentation : Instant) : Vector Route 64 :=
  mapTable
    (fun r =>
      if r.feeds p (s.port p).cfg.slots then
        { r with last := r.compute s.channels s.gens s.ctrl.f presentation }
      else r)
    s.routes

/-- The values of a CUE packet in send order, from the routes after its build. -/
def cueValues (routes : Vector Route 64) (p : Port) (cfg : PortConfig) : List Word :=
  (sendOrder cfg).map (slotValue routes.toList (·.last) p)

/-- The values of a NEUTRAL packet in send order: the rest values (R33). -/
def restValues (routes : Vector Route 64) (p : Port) (cfg : PortConfig) : List Word :=
  (sendOrder cfg).map (slotValue routes.toList (·.rest) p)

end Sys2Proof.Machine
end

