-- ==== Sys2Proof/Machine/Flags.lean ====
section
/-! DEFINITION. The words of a packet: header fields and flags, payload beats and trailer (R99 to R102,
11.3), and the conditions that packets and commands read from the hub (R25, R27, R31, R101). -/

namespace Sys2Proof.Machine

def PacketKind.code : PacketKind → Nat
  | .cue => 1
  | .continuation => 2
  | .event => 3
  | .neutral => 4
  | .echo => 5

def flagBit (b : Bool) : Nat := if b then 1 else 0

namespace Packet

/-- Header word 1 (11.3): an ECHO carries its number in bits 10 .. 0. -/
def header1 (k : Packet) : Word :=
  BitVec.ofNat 16
    (k.kind.code * 8192 + flagBit k.degraded * 4096 + flagBit k.ramping * 2048 +
      (if k.kind = .echo then k.echoNumber.toNat else k.firstSlot * 64 + k.count))

/-- Header word 2: the frame number. -/
def header2 (k : Packet) : Word := k.frame

/-- The payload beats: `w` values each, the last one filled up with 0 (R100). -/
def payloadBeats (w : Nat) (k : Packet) : List (List Word) :=
  (List.range (ceilDiv k.values.length w)).map
    (fun i => (List.range w).map (fun j => k.values.getD (i * w + j) 0))

/-- The trailer: the sum of header and payload words modulo 65536 (R102). -/
def trailer (w : Nat) (k : Packet) : Word :=
  ((k.payloadBeats w).flatten).foldl (· + ·) (k.header1 + k.header2)

/-- The words of each beat on the line, in order (R99). -/
def beats (w : Nat) (k : Packet) : List (List Word) :=
  [k.header1] :: [k.header2] :: (k.payloadBeats w ++ [[k.trailer w]])

/-- The number of beats (R99). -/
def beatCount (w : Nat) (k : Packet) : Nat := 3 + ceilDiv k.values.length w

end Packet

/-- The four payload words of an EVENT packet (11.3). -/
def eventWords (e : Entry) (amplitude : Cue) : List Word :=
  [e.tag.setWidth 16, BitVec.ofNat 16 (e.kind.toNat * 256 + e.shape.toNat), amplitude,
    e.duration.setWidth 16]

namespace State

/-- The degraded flag: the clock is in HOLDOVER (R101, R136). -/
def degraded (s : State) : Bool := s.clock.st = .holdover

/-- The ramping indication (R31). -/
def ramping (s : State) : Bool := s.ctrl.st = .rampIn || s.ctrl.st = .rampOut

/-- The essential ports that are not RUNNING (R25, R27). -/
def notRunning (s : State) : List Port :=
  allPorts.filter (fun p => (s.port p).cfg.essential && decide ((s.port p).st ≠ .running))

/-- Ready to go (R25). -/
def readyToGo (s : State) : Bool := s.clock.st = .locked && s.notRunning.isEmpty

/-- Ready to resume (R27). -/
def readyToResume (s : State) : Bool :=
  (s.clock.st = .locked || s.clock.st = .holdover) && s.notRunning.isEmpty

/-- The hub states in which a RUNNING port's scheduler is ACTIVE (R126). -/
def deliversCues (s : State) : Bool :=
  match s.ctrl.st with
  | .armed | .rampIn | .live | .rampOut | .paused => true
  | .setup | .halted => false

/-- The hub states in which events are admitted (R142). -/
def admitsEvents (s : State) : Bool :=
  match s.ctrl.st with
  | .rampIn | .live | .rampOut => true
  | _ => false

end State

end Sys2Proof.Machine
end

