-- ==== Sys2Proof/Machine/Timing.lean ====
section
/-! DEFINITION. Port latencies, the observed-error window and the delivery scheduler (chapter 7). -/

namespace Sys2Proof.Machine

namespace BoardPort

/-- transit_cue (R120). -/
def transitCue (b : BoardPort) : Nat := (3 + ceilDiv b.cfg.slots b.cfg.width) * b.cfg.beatPeriod

/-- transit_event (R120). -/
def transitEvent (b : BoardPort) : Nat := (3 + ceilDiv 4 b.cfg.width) * b.cfg.beatPeriod

/-- The correction (R124). -/
def correction (b : BoardPort) : Int :=
  if b.window.isEmpty then 0
  else
    clampInt (-(Config.correctionMax : Int)) Config.correctionMax
      (ceilDivInt (b.window.map (·.error)).sum b.window.length)

/-- The base delay (R121). -/
def baseDelay (b : BoardPort) : Int :=
  match b.cfg.latencySource with
  | .declared => b.echo.declared
  | .observed => b.echo.declared + b.correction
  | .fixed => b.cfg.fixedLatency

/-- A latency from its transit time: base, line delay and transit, clamped (R120). -/
def latencyWith (b : BoardPort) (transit : Nat) : Nat :=
  (clampInt 0 Config.latencyMax (b.baseDelay + b.echo.lineDelay + transit)).toNat

/-- L_b and L_b,event formed anew (R122). -/
def withLatencies (b : BoardPort) : BoardPort :=
  { b with latCue := b.latencyWith b.transitCue, latEvent := b.latencyWith b.transitEvent }

/-- The latest start of a frame's CUE packet, from its presentation instant (R125). -/
def cueLatest (b : BoardPort) (p : Instant) : Instant := p - micro b.latCue

/-- The release of a frame's CUE packet, from its presentation instant (R125). -/
def cueRelease (b : BoardPort) (p : Instant) : Instant := p - micro b.latCue - micro b.cfg.guard

/-- The latest start of an EVENT packet (R125). -/
def eventLatest (b : BoardPort) (p : Instant) : Instant := p - micro b.latEvent

/-- The release of an EVENT packet (R125). -/
def eventRelease (b : BoardPort) (p : Instant) : Instant := p - micro b.latEvent - micro b.cfg.guard

/-- An entry joins the observed-error window, the oldest of 8 leaving it first (R123). -/
def addError (e : WindowEntry) (b : BoardPort) : BoardPort :=
  { b with
    window :=
      (if Config.windowSize ≤ b.window.length then b.window.drop 1 else b.window) ++ [e] }

/-- The schedule of frame `next` formed from the clock; `due` says whether its packet is due already. One whose
release is past falls due at once; at the very instant of its release it falls due by the event RELEASE
(R125, R127, R132). -/
def schedule (c : Clock) (next : Frame) (due : Bool) (b : BoardPort) : Schedule :=
  let p := c.presentationOr next c.cueTime
  ⟨next, b.cueRelease p, b.cueLatest p, due || past (b.cueRelease p) c.cueTime⟩

/-- The first frame, counted upward from `f`, whose release lies after now (R126). -/
def firstAhead (c : Clock) (b : BoardPort) : Nat → Frame → Frame
  | 0, f => f
  | n + 1, f =>
    if reached (b.cueRelease (c.presentationOr f c.cueTime)) c.cueTime then firstAhead c b n (f + 1)
    else f

/-- The scheduler takes N_b afresh (R126, R133). -/
def takeFirst (c : Clock) (b : BoardPort) : BoardPort :=
  { b with sched := some (b.schedule c (b.firstAhead c Config.frameFuel c.current) false) }

/-- The scheduler becomes ACTIVE (R126). -/
def activate (c : Clock) (b : BoardPort) : BoardPort := { b.takeFirst c with skipCount := 0 }

/-- An ACTIVE scheduler forms the instants of N_b anew (R132). -/
def reform (c : Clock) (b : BoardPort) : BoardPort :=
  match b.sched with
  | some sc => { b with sched := some (b.schedule c sc.next sc.due) }
  | none => b

/-- One skip: the count rises and N_b advances (R129). -/
def skipFrame (c : Clock) (sc : Schedule) (b : BoardPort) : BoardPort :=
  { b with
    skipCount := countUp 255 1 b.skipCount
    sched := some (b.schedule c (sc.next + 1) false) }

end BoardPort

namespace State

/-- One skip of port `p`, with the LATE notice at or above skip_limit (R129 to R131). -/
def skipOne (p : Port) (sc : Schedule) (s : State) : State :=
  let b := (s.port p).skipFrame s.clock sc
  let s := s.withPort p b
  if b.cfg.skipLimit ≤ b.skipCount then
    s.placeLate ⟨p, sc.next, b.skipCount, b.latCue, b.cfg.guard, s.clock.current⟩
  else s

/-- Every frame whose latest start lies before now is skipped (R129, R132). -/
def skipPast (p : Port) : Nat → State → State
  | 0, s => s
  | n + 1, s =>
    match (s.port p).sched with
    | some sc => if past sc.latest s.now then skipPast p n (s.skipOne p sc) else s
    | none => s

end State

end Sys2Proof.Machine
end

