-- ==== Sys2Proof/Machine/Events.lean ====
section
/-! DEFINITION. The coupled event queue (chapter 8): destinations, entries becoming DONE, releases and
flushes. -/

namespace Sys2Proof.Machine

namespace Destination

/-- The outcome is not final (R140, R141). -/
def pending (d : Destination) : Bool :=
  match d.state with
  | .waiting _ _ | .due _ | .inFlight _ => true
  | .sent | .missed | .dropped => false

def isWaiting (d : Destination) : Bool :=
  match d.state with
  | .waiting _ _ => true
  | _ => false

def outcome (d : Destination) : Outcome :=
  match d.state with
  | .waiting _ _ | .due _ | .inFlight _ => .pending
  | .sent => .sent
  | .missed => .missed
  | .dropped => .dropped

def progress (d : Destination) : Option Progress :=
  match d.state with
  | .waiting _ _ => some .waiting
  | .due _ => some .due
  | .inFlight _ => some .inFlight
  | _ => none

/-- A PENDING destination becomes DROPPED (R150, R154, R155). -/
def drop (d : Destination) : Destination := if d.pending then { d with state := .dropped } else d

/-- The flush at the renumbering frame start leaves a packet in flight alone (R158). -/
def dropUnsent (d : Destination) : Destination :=
  match d.state with
  | .inFlight _ => d
  | _ => d.drop

/-- A loss of port `p` drops what is DUE or IN_FLIGHT there (R150). -/
def dropOnLoss (p : Port) (d : Destination) : Destination :=
  match d.state with
  | .due _ | .inFlight _ => if d.port = p then { d with state := .dropped } else d
  | _ => d

/-- The trailer has ended (R149). -/
def send (d : Destination) : Destination :=
  match d.state with
  | .inFlight _ => { d with state := .sent }
  | _ => d

/-- ABORT has interrupted the packet (R149). -/
def interrupt (d : Destination) : Destination :=
  match d.state with
  | .inFlight l => { d with state := .due l }
  | _ => d

/-- The release of R146, by the port as it stands at now. -/
def release (s : State) (d : Destination) : Destination :=
  match d.state with
  | .waiting _ l =>
    if (s.port d.port).st ≠ .running then { d with state := .dropped }
    else if past l s.now then { d with state := .missed }
    else { d with state := .due l }
  | _ => d

/-- A WAITING destination whose release lies at or before now is released (R145). -/
def releaseIfReached (s : State) (d : Destination) : Destination :=
  match d.state with
  | .waiting r _ => if reached r s.now then d.release s else d
  | _ => d

/-- The instants of an entry's destination formed anew, and its release when it is reached (R145 to
R147). A packet that has started keeps its latest start. -/
def refresh (s : State) (e : Entry) (d : Destination) : Destination :=
  match s.clock.presentation e.frame, d.state with
  | some p, .waiting _ _ =>
    releaseIfReached s
      { d with
        state := .waiting ((s.port d.port).eventRelease p) ((s.port d.port).eventLatest p) }
  | some p, .due _ =>
    if d.starts = 0 then { d with state := .due ((s.port d.port).eventLatest p) } else d
  | _, _ => d

/-- A DUE destination whose latest start lies before now is MISSED (R147). -/
def expire (now : Instant) (d : Destination) : Destination :=
  match d.state with
  | .due l => if past l now then { d with state := .missed } else d
  | _ => d

end Destination

namespace Entry

/-- An ACTIVE entry with no PENDING destination left (R151). -/
def finished (e : Entry) : Bool := e.st = .active && e.dests.all (fun d => !d.pending)

def isDone (e : Entry) : Bool := e.st = .done

/-- The destinations of an ACTIVE entry, each through `f`. -/
def mapActive (f : Entry → Destination → Destination) (e : Entry) : Entry :=
  if e.st = .active then { e with dests := e.dests.map (f e) } else e

def report (e : Entry) : EntryReport :=
  ⟨e.tag, e.kind, e.frame, e.slipUsed,
    e.dests.map (fun d => ⟨d.port, d.outcome, d.amplitudeSent, d.starts⟩)⟩

end Entry

namespace State

def doneCount (s : State) : Nat := s.queue.countP Entry.isDone

/-- The destinations of every ACTIVE entry, each through `f`. -/
def mapDests (f : Entry → Destination → Destination) (s : State) : State :=
  s.withQueue (s.queue.map (Entry.mapActive f))

/-- One destination, by its entry's tag and its port. -/
def mapDest (tag : Byte) (p : Port) (f : Destination → Destination) (s : State) : State :=
  s.mapDests (fun e d => if e.tag = tag ∧ d.port = p then f d else d)

def markDone (tag : Byte) (s : State) : State :=
  s.withQueue
    (s.queue.map (fun e => if e.tag = tag && e.finished then { e with st := .done } else e))

/-- An entry whose last PENDING destination is final becomes DONE, with its notice (R151, R157). DESIGN CHOICE:
the notice counts the entries that are DONE as this one becomes so, and not the later ones of the same event
(log 38). -/
def settleEntry (s : State) (e : Entry) : State :=
  if e.finished then
    let s := s.markDone e.tag
    s.placeOutcomes
      ⟨e.tag, e.frame, e.dests.map (fun d => (d.port, d.outcome)), s.doneCount, s.clock.current⟩
  else s

/-- Every finished entry becomes DONE, in queue order (R151, R157). -/
def settle (s : State) : State := s.queue.foldl settleEntry s

/-- The destinations on the ports that `which` names are formed anew (R145, R147). DESIGN CHOICE: the entries
that their releases finish are noticed here, ahead of those that `expireEvents` finishes in the same event,
whatever their places in the queue (log 38). -/
def refreshEvents (which : Port → Bool) (s : State) : State :=
  (s.mapDests (fun e d => if which d.port then d.refresh s e else d)).settle

/-- DUE destinations past their latest start are MISSED (R147), the last entries noticed in an event
(log 38). -/
def expireEvents (s : State) : State := (s.mapDests (fun _ => Destination.expire s.now)).settle

/-- PAUSED and HALTED entry drop every PENDING destination (R154, R155). -/
def flushEvents (s : State) : State := (s.mapDests (fun _ => Destination.drop)).settle

/-- The renumbering frame start drops every PENDING destination whose packet is not in flight (R158). -/
def flushUnsent (s : State) : State := (s.mapDests (fun _ => Destination.dropUnsent)).settle

end State

/-- A new entry stands immediately ahead of the first ACTIVE entry of a later frame (R140). -/
def insertEntry (e : Entry) : List Entry → List Entry
  | [] => [e]
  | x :: xs =>
    if x.st = .active ∧ frameAfter e.frame x.frame then e :: x :: xs else x :: insertEntry e xs

end Sys2Proof.Machine
end

