-- ==== Sys2Proof/Machine/Lines.lean ====
section
/-! DEFINITION. The outbound lines (chapter 6): the arbiter, packet starts, completion, interruption and
cuts, and echoes. -/

namespace Sys2Proof.Machine

/-- A packet that is due on a port's line (R107). -/
inductive Claim where
  | continuation (packet : Packet)
  | event (tag : Byte)
  | cue
  | neutral
  | echo
  deriving DecidableEq, Repr

/-- The claim with the earliest latest start; among equal ones the first of the list (R108). -/
def earliest : List (Instant × Claim) → Option Claim
  | [] => none
  | x :: xs => some (xs.foldl (fun best y => if past y.1 best.1 then y else best) x).2

namespace State

/-- The EVENT packet of an entry due on port `p`, with its latest start. -/
def eventClaim (p : Port) (e : Entry) : List (Instant × Claim) :=
  if e.st = .active then
    e.dests.filterMap
      (fun d =>
        match d.state with
        | .due l => if d.port = p then some (l, .event e.tag) else none
        | _ => none)
  else []

/-- The due CONTINUE, EVENT and CUE packets of port `p`, in their precedence among equals (R108). -/
def claims (p : Port) (s : State) : List (Instant × Claim) :=
  (s.port p).conts.map (fun k => (k.latest.getD s.now, .continuation k)) ++
    s.queue.flatMap (eventClaim p) ++
    match (s.port p).sched with
    | some sc => if sc.due then [(sc.latest, .cue)] else []
    | none => []

/-- The arbiter's choice among the packets due on port `p` (R108). -/
def chooseClaim (p : Port) (s : State) : Option Claim :=
  match earliest (s.claims p) with
  | some c => some c
  | none =>
    if (s.port p).neutral.isSome then some .neutral
    else if (s.port p).echoDue.isSome then some .echo
    else none

/-- The line is free and neither WAIT nor ABORT is asserted (R108). -/
def lineOpen (p : Port) (s : State) : Bool :=
  (s.port p).inFlight.isNone && !(s.port p).wait && !(s.port p).abort

/-! #### Packet starts (R103) -/

/-- The packet starts at now: it is in flight with nothing delivered (R103). -/
def launch (p : Port) (k : Packet) (s : State) : State :=
  s.withPort p { s.port p with inFlight := some ⟨k, s.now, 0⟩ }

/-- The CUE packet of N_b as its build leaves it (R64, R101, R135). -/
def cuePacket (p : Port) (sc : Schedule) (routes : Vector Route 64) (s : State) : Packet where
  kind := .cue
  frame := sc.next
  firstSlot := (s.port p).cfg.leadSlot
  count := (s.port p).cfg.slots
  degraded := s.degraded
  ramping := s.ramping
  echoNumber := 0
  values := cueValues routes p (s.port p).cfg
  latest := some sc.latest
  eventTag := none

/-- The CUE packet of N_b starts: its build writes last, and the scheduler advances (R64, R128). -/
def startCue (p : Port) (s : State) : State :=
  match (s.port p).sched with
  | none => s
  | some sc =>
    let routes := buildRoutes s p (s.clock.presentationOr sc.next s.now)
    let s := (s.withRoutes routes).launch p (s.cuePacket p sc routes)
    let b := s.port p
    let s :=
      s.withPort p
        { b with skipCount := 0, sched := some (b.schedule s.clock (sc.next + 1) false) }
    s.skipPast p Config.frameFuel

/-- A CONTINUE packet starts (R106). -/
def startContinuation (p : Port) (k : Packet) (s : State) : State :=
  (s.withPort p { s.port p with conts := (s.port p).conts.erase k }).launch p k

/-- The EVENT packet of an entry at its first start: amplitude and flags are fixed (R148, R101). -/
def eventPacket (e : Entry) (latest : Instant) (s : State) : Packet where
  kind := .event
  frame := e.frame
  firstSlot := 0
  count := 4
  degraded := s.degraded
  ramping := s.ramping
  echoNumber := 0
  values := eventWords e (BitVec.ofInt 16 (roundDiv (e.amplitude.toInt * s.ctrl.f) 256))
  latest := some latest
  eventTag := some e.tag

/-- A destination whose packet starts: at its first start the packet is fixed (R148). -/
def startDestination (e : Entry) (s : State) (d : Destination) : Destination :=
  match d.state with
  | .due l =>
    let k := d.packet.getD (s.eventPacket e l)
    { d with
      state := .inFlight l
      amplitudeSent := some (k.values.getD 2 0)
      starts := countUp 255 1 d.starts
      packet := some k }
  | _ => d

/-- The due EVENT packet of the entry with this tag on port `p`. -/
def dueEvent (p : Port) (tag : Byte) (s : State) : Option Packet :=
  s.queue.findSome? (fun e =>
    if e.st = .active ∧ e.tag = tag then
      e.dests.findSome? (fun d =>
        match d.state with
        | .due l => if d.port = p then some (d.packet.getD (s.eventPacket e l)) else none
        | _ => none)
    else none)

/-- An EVENT packet starts (R148). -/
def startEvent (p : Port) (tag : Byte) (s : State) : State :=
  match s.dueEvent p tag with
  | some k =>
    (s.mapDests (fun e d => if e.tag = tag ∧ d.port = p then startDestination e s d else d)).launch p k
  | none => s

/-- The NEUTRAL packet starts (R33). -/
def startNeutral (p : Port) (s : State) : State :=
  match (s.port p).neutral with
  | some k => (s.withPort p { s.port p with neutral := none }).launch p k
  | none => s

/-- An ECHO packet with this number and frame (R99, R101). -/
def echoPacket (number : Byte) (frame : Frame) : Packet :=
  ⟨.echo, frame, 0, 0, false, false, number, [], none, none⟩

/-- The ECHO packet starts: its frame is the current frame at its first start (R101). -/
def startEcho (p : Port) (s : State) : State :=
  match (s.port p).echoDue with
  | some e =>
    (s.withPort p { s.port p with echoDue := none }).launch p
      (echoPacket e.number (e.frame.getD s.clock.current))
  | none => s

def startClaim (p : Port) (c : Claim) (s : State) : State :=
  match c with
  | .continuation k => s.startContinuation p k
  | .event tag => s.startEvent p tag
  | .cue => s.startCue p
  | .neutral => s.startNeutral p
  | .echo => s.startEcho p

/-- The arbiter of port `p` decides (R108). -/
def grant (p : Port) (s : State) : State :=
  if s.lineOpen p then
    match s.chooseClaim p with
    | some c => s.startClaim p c
    | none => s
  else s

def grantAll (s : State) : State := ((s.grant .vision).grant .sound).grant .cab

/-! #### Latest starts that have passed -/

/-- CONTINUE packets past their latest start end PARTIAL (R137, R138). -/
def expireConts (p : Port) (s : State) : State :=
  let b := s.port p
  let gone := b.conts.filter (fun k => past (k.latest.getD s.now) s.now)
  s.withPort p
    { b with
      conts := b.conts.filter (fun k => !past (k.latest.getD s.now) s.now)
      partialCount := countUp 65535 gone.length b.partialCount }

def expirePort (p : Port) (s : State) : State := (s.skipPast p Config.frameFuel).expireConts p

/-- Every unstarted packet whose latest start lies before now is withdrawn (R129, R137, R147). DESIGN CHOICE:
the ports skip in the order VISION, SOUND, CAB, each with its LATE notices, and the event queue comes last
(logs 31, 33). -/
def expireAll (s : State) : State :=
  (((s.expirePort .vision).expirePort .sound).expirePort .cab).expireEvents

/-- The end of an event that touches a port's line: packets past their latest start are withdrawn, and
each arbiter decides (log 7). -/
def finishLines (s : State) : State := s.expireAll.grantAll

/-! #### Completion, interruption and cuts -/

/-- The send instant of the outstanding echo, when `number` is its own (R111). -/
def EchoRecord.markSent (number : Byte) (now : Instant) (r : EchoRecord) : EchoRecord :=
  match r.outstanding with
  | some o => if o.number = number then { r with outstanding := some { o with sent := some now } } else r
  | none => r

/-- The trailer of the packet in flight has ended (R103, R111, R149). -/
def completePacket (p : Port) (s : State) : State :=
  match (s.port p).inFlight with
  | none => s
  | some fl =>
    let b := { s.port p with inFlight := none }
    match fl.packet.kind with
    | .echo => s.withPort p { b with echo := EchoRecord.markSent fl.packet.echoNumber s.now b.echo }
    | .event =>
      match fl.packet.eventTag with
      | some tag => ((s.withPort p b).mapDest tag p Destination.send).settle
      | none => s.withPort p b
    | .cue | .continuation | .neutral => s.withPort p b

/-- The packet in flight on port `p` is cut: no further beat, no trailer (R33, R96, R114). -/
def cut (p : Port) (s : State) : State := s.withPort p { s.port p with inFlight := none }

end State

/-- The slots delivered by the payload beats that have ended by `now` (R103, R105). -/
def InFlight.deliveredBy (now : Instant) (cfg : PortConfig) (fl : InFlight) : Nat :=
  max fl.delivered
    (min fl.packet.values.length (((now - fl.start).toNat / cfg.beatPeriod - 2) * cfg.width))

/-- The CONTINUE packet for the values of `fl` from `delivered` on (R100, R101, R105). -/
def InFlight.remainder (slots delivered : Nat) (fl : InFlight) : Packet :=
  { fl.packet with
    kind := .continuation
    firstSlot := (fl.packet.firstSlot + delivered) % slots
    count := fl.packet.values.length - delivered
    values := fl.packet.values.drop delivered }

namespace State

/-- ABORT interrupts the packet in flight on port `p` at now (R105, R106). -/
def interrupt (p : Port) (s : State) : State :=
  match (s.port p).inFlight with
  | none => s
  | some fl =>
    let b := { s.port p with inFlight := none }
    match fl.packet.kind with
    | .cue | .continuation =>
      let n := fl.deliveredBy s.now b.cfg
      if n < fl.packet.values.length then
        s.withPort p { b with conts := b.conts ++ [fl.remainder b.cfg.slots n] }
      else s.withPort p b
    | .event =>
      match fl.packet.eventTag with
      | some tag => (s.withPort p b).mapDest tag p Destination.interrupt
      | none => s.withPort p b
    | .neutral => s.withPort p { b with neutral := some fl.packet }
    | .echo =>
      if b.echo.outstanding.map (·.number) = some fl.packet.echoNumber then
        s.withPort p { b with echoDue := some ⟨fl.packet.echoNumber, some fl.packet.frame⟩ }
      else s.withPort p b

end State

/-- A payload beat of the CUE or CONTINUE packet in flight has ended (R103). -/
def InFlight.addBeat (width : Nat) (fl : InFlight) : InFlight :=
  { fl with delivered := min fl.packet.values.length (fl.delivered + width) }

namespace BoardPort

/-! #### Echoes -/

/-- An echo is issued, when none is outstanding (R110). -/
def issueEcho (b : BoardPort) : BoardPort :=
  match b.echo.outstanding with
  | some _ => b
  | none =>
    { b with
      echo :=
        { b.echo with
          next := b.echo.next + 1
          outstanding := some ⟨b.echo.next, 0, none⟩ }
      echoDue := some ⟨b.echo.next, none⟩ }

/-- The outstanding echo has reached its age limit and is missed (R113). -/
def missEcho (b : BoardPort) : BoardPort :=
  { b with
    echo := { b.echo with outstanding := none, missCount := countUp 255 1 b.echo.missCount }
    echoDue := none }

/-- Whether the outstanding echo is missed at the coming frame start (R113). -/
def echoIsMissed (b : BoardPort) : Bool :=
  match b.echo.outstanding with
  | some o => Config.echoAgeLimit ≤ o.age + 1
  | none => false

/-- The instant of the entry to PROBING is forgotten when no report can have begun before it (log 15). -/
def ageOpening (now : Instant) (b : BoardPort) : BoardPort :=
  { b with openedAt := b.openedAt.filter (fun t => decide ((now - t).toNat ≤ Config.reportSpanMax)) }

/-- A frame start ages the outstanding echo (R113). A port in OFF has none. -/
def ageEcho (b : BoardPort) : BoardPort :=
  match b.echo.outstanding with
  | some o =>
    if b.echoIsMissed then b.missEcho
    else { b with echo := { b.echo with outstanding := some { o with age := o.age + 1 } } }
  | none => b

/-- Whether a frame start takes the port from RUNNING to LOST (R113). -/
def goesLost (b : BoardPort) : Bool :=
  b.st = .running && b.echoIsMissed && decide (Config.echoMissLimit ≤ b.echo.missCount + 1)

/-- Whether the interval count of a RUNNING port reaches echo_interval at the coming frame start, with
no echo outstanding and the last one answered (R110). -/
def echoIntervalDue (b : BoardPort) : Bool :=
  b.st = .running && b.echo.outstanding.isNone && b.echo.missCount = 0 &&
    decide (b.cfg.echoInterval ≤ b.echo.intervalCount + 1)

/-- The echo that a frame start issues on a RUNNING, PROBING or LOST port, after the ageing (R110). The
echo concluded most recently was missed exactly when the miss count is not 0. -/
def frameStartIssue (b : BoardPort) : BoardPort :=
  match b.st with
  | .off => b
  | .probing | .lost => b.issueEcho
  | .running =>
    if b.echo.missCount ≠ 0 then b.issueEcho
    else if b.echoIntervalDue then
      { b with echo := { b.echo with intervalCount := 0 } }.issueEcho
    else { b with echo := { b.echo with intervalCount := b.echo.intervalCount + 1 } }

end BoardPort

end Sys2Proof.Machine
end

