-- ==== Sys2Proof/Machine/Hub.lean ====
section
/-! DEFINITION. The hub controller (chapter 2) and the entries of hub states and port states that act on
several blocks: PAUSED, HALTED, SETUP, ARMED, LOST and RUNNING. -/

namespace Sys2Proof.Machine

/-! ### Resume conditions: the snapshot (R169) -/

def bitOf (w : Word) (line : Fin 16) : Bool := w.getLsbD line.val

namespace ResumeCondition

/-- The flag of the snapshot against the previous word (R169). -/
def snapshot (previous : Word) (c : ResumeCondition) : ResumeCondition :=
  { c with
    held :=
      match c.type with
      | .high => bitOf previous c.line
      | .low => !bitOf previous c.line
      | _ => false }

end ResumeCondition

namespace State

/-! ### Changes of hub state (R38) -/

/-- The hub enters a state: the STATE notice names the state left (R38). -/
def changeHub (new : HubState) (reason : HaltReason) (f : Nat) (cause : StateCause) (s : State) :
    State :=
  (s.withCtrl { s.ctrl with st := new, reason := reason, f := f }).placeState
    ⟨new, s.ctrl.st, cause, reason, f, s.clock.current⟩

/-- GO, RESUME or a resume condition brings the hub into motion (R25, R27, R37). -/
def enterMotion (cause : StateCause) (s : State) : State :=
  if s.ctrl.rampIn = 0 then s.changeHub .live s.ctrl.reason 256 cause
  else s.changeHub .rampIn s.ctrl.reason s.ctrl.f cause

def snapshotConditions (s : State) : State :=
  s.withCab
    { s.cab with conditions := mapTable (ResumeCondition.snapshot s.cab.previous) s.cab.conditions }

/-- Cuts an EVENT packet in flight (R154). -/
def cutEvent (p : Port) (s : State) : State :=
  match (s.port p).inFlight with
  | some fl => if fl.packet.kind = .event then s.cut p else s
  | none => s

/-- PAUSED entry: f 0, the events flushed, the conditions' snapshot (R32, R154, R169). DESIGN CHOICE: its
STATE notice is placed before its OUTCOMES notices (log 31). -/
def enterPaused (cause : StateCause) (s : State) : State :=
  let s := s.changeHub .paused s.ctrl.reason 0 cause
  let s := ((s.cutEvent .vision).cutEvent .sound).cutEvent .cab
  s.flushEvents.snapshotConditions

/-- The NEUTRAL packet of a port (R33, R101). -/
def neutralPacket (p : Port) (s : State) : Packet where
  kind := .neutral
  frame := s.clock.current
  firstSlot := (s.port p).cfg.leadSlot
  count := (s.port p).cfg.slots
  degraded := s.degraded
  ramping := false
  echoNumber := 0
  values := restValues s.routes p (s.port p).cfg
  latest := none
  eventTag := none

/-- HALTED entry on one port (R33). -/
def haltPort (p : Port) (s : State) : State :=
  let b := s.port p
  s.withPort p
    { b with
      inFlight := none
      conts := []
      sched := none
      neutral := if b.st = .running then some (s.neutralPacket p) else b.neutral }

/-- HALTED entry (R33, R34, R155). DESIGN CHOICE: its STATE notice is placed before its OUTCOMES notices
(log 31). -/
def enterHalted (reason : HaltReason) (cause : StateCause) (s : State) : State :=
  let s := s.changeHub .halted reason 0 cause
  (((s.haltPort .vision).haltPort .sound).haltPort .cab).flushEvents

/-! ### SETUP entry (R22) -/

/-- The PORT notice of R119, from the state after the change. DESIGN CHOICE: at SETUP entry its delays are
those the entry leaves, which are 0 (log 37). -/
def portNotice (p : Port) (left : PortState) (cause : PortCause) (s : State) : PortNotice where
  port := p
  new := (s.port p).st
  left := left
  cause := cause
  frame := s.clock.current
  lineDelay := (s.port p).echo.lineDelay
  declared := (s.port p).echo.declared
  vision := s.ports.vision.st
  sound := s.ports.sound.st
  cab := s.ports.cab.st

/-- The PORT notice for a change of port state, if there was one (R119). -/
def notePort (p : Port) (left : PortState) (cause : PortCause) (s : State) : State :=
  if (s.port p).st = left then s else s.placePort (s.portNotice p left cause)

/-- SETUP entry on one port (R96, R122, R139). -/
def closePort (p : Port) (s : State) : State :=
  let b := s.port p
  if b.st = .off then s.withPort p b.withLatencies
  else
    s.withPort p
      { b with
        st := .off
        inFlight := none
        conts := []
        neutral := none
        echoDue := none
        sched := none
        inbound := none
        openedAt := none
        window := []
        echo := { Reset.echo with next := b.echo.next } }.withLatencies

/-- PORT notices of an event that changes several ports, each after all the changes (R119). DESIGN CHOICE:
they are placed in the order VISION, SOUND, CAB (log 31). -/
def notePorts (old : Ports) (cause : PortCause) (s : State) : State :=
  ((s.notePort .vision old.vision.st cause).notePort .sound old.sound.st cause).notePort .cab
    old.cab.st cause

/-- SETUP entry on the cab input unit (R171). -/
def clearCab (s : State) : State :=
  s.withCab
    { s.cab with
      previous := 0
      fifo := []
      gapPending := false
      conditions := mapTable (fun c => { c with held := false }) s.cab.conditions }

/-- SETUP entry of every block but the controller and the clock (R22). -/
def clearDynamic (s : State) : State :=
  let s := s.withChannels (mapTable Channel.clear s.channels)
  let s := s.withRoutes (mapTable (fun r => { r with last := r.rest }) s.routes)
  let s := s.withGens (mapTable Generator.enterSetup s.gens)
  (s.withQueue []).clearCab

/-- SETUP entry (R22). DESIGN CHOICE: its notices are placed in the order STATE, CLOCK, PORT (log 31), the
PORT notices with the delays cleared (log 37). -/
def enterSetup (s : State) : State :=
  let clock := s.clock.st
  let ports := s.ports
  let s := s.changeHub .setup .none 0 .command
  let s := (s.withClock s.clock.enterSetup).noteClock clock .setupEntry
  let s := s.clearDynamic
  let s := ((s.closePort .vision).closePort .sound).closePort .cab
  s.notePorts ports .setupEntry

/-! ### ARM (R23, R24) -/

/-- The first essential port that is not enabled. -/
def essentialDisabled (s : State) : Option Port :=
  allPorts.find? (fun p => (s.port p).cfg.essential && !(s.port p).cfg.enable)

/-- Items 3 and 4 of R23 for one route. -/
def routeFault (s : State) (i : Fin 64) : Option ConfigItem :=
  match s.routes[i].port with
  | none => none
  | some p =>
    if !(s.port p).cfg.enable then some (.routePort i)
    else if (s.port p).cfg.slots ≤ s.routes[i].slot then some (.routeSlot i)
    else none

/-- Item 5 of R23 for one generator. -/
def lineFault (s : State) (g : Fin 4) : Option ConfigItem :=
  if s.gens[g].triggerLine = 0xFF ∨ s.gens[g].triggerLine.toNat ≤ 15 then none
  else some (.triggerLine g)

/-- The configuration check: the first item that fails (R23). -/
def configFault (s : State) : Option ConfigItem :=
  if allPorts.all (fun p => !(s.port p).cfg.enable) then some .noPort
  else
    match s.essentialDisabled with
    | some p => some (.essentialDisabled p)
    | none =>
      match (List.finRange 64).findSome? s.routeFault with
      | some item => some item
      | none => (List.finRange 4).findSome? s.lineFault

/-- An enabled port goes to PROBING and issues an echo; its inbound words start afresh (R96, R187). -/
def openPort (p : Port) (s : State) : State :=
  let b := s.port p
  if b.cfg.enable then
    s.withPort p { b with st := .probing, inbound := none, openedAt := some s.now }.issueEcho
  else s

/-- ARM accepted (R24). DESIGN CHOICE: its notices are placed in the order STATE, CLOCK, PORT (log 31). -/
def enterArmed (s : State) : State :=
  let clock := s.clock.st
  let ports := s.ports
  let s := s.changeHub .armed .none 0 .command
  let s := (s.withClock s.clock.arm).noteClock clock .arm
  let s :=
    s.withRoutes
      (mapTable (fun r => if r.port.isSome then { r with last := r.rest } else r) s.routes)
  let s := s.withGens (mapTable Generator.arm s.gens)
  let s := ((s.openPort .vision).openPort .sound).openPort .cab
  (s.notePorts ports .arm).finishLines

/-! ### Ramp steps and automatic halts (R30, R35) -/

/-- The ramp step of a frame start (R30). -/
def rampStep (s : State) : State :=
  match s.ctrl.st with
  | .rampIn =>
    let f := if s.ctrl.rampIn = 0 then 256 else min 256 (s.ctrl.f + ceilDiv 256 s.ctrl.rampIn)
    if f = 256 then s.changeHub .live s.ctrl.reason 256 .rampDone
    else s.withCtrl { s.ctrl with f := f }
  | .rampOut =>
    let f := if s.ctrl.rampOut = 0 then 0 else s.ctrl.f - ceilDiv 256 s.ctrl.rampOut
    if f = 0 then s.enterPaused .rampDone else s.withCtrl { s.ctrl with f := f }
  | _ => s

/-- The controller takes the expiry of HOLDOVER (R35). -/
def clockLost (s : State) : State :=
  match s.ctrl.st with
  | .rampIn | .live | .rampOut | .paused => s.enterHalted .clockLost .clockLost
  | .setup | .armed | .halted => s

/-! ### Ports lost and running (R36, R114, R115, R122) -/

/-- A port enters LOST (R114), less the report to the controller. DESIGN CHOICE: its OUTCOMES notices are
placed before its PORT notice (log 31). -/
def losePort (p : Port) (s : State) : State :=
  let b := s.port p
  let s :=
    s.withPort p
      { b with
        st := .lost
        inFlight := none
        conts := []
        neutral := none
        echoDue := none
        sched := none }.issueEcho
  ((s.mapDests (fun _ => Destination.dropOnLoss p)).settle).notePort p b.st .echoMissed

/-- The controller takes the loss of a port (R36). -/
def portLost (p : Port) (s : State) : State :=
  if (s.port p).cfg.essential then
    match s.ctrl.st with
    | .rampIn | .live | .rampOut => s.enterHalted (.portLost p) (.portLost p)
    | _ => s
  else s

/-- A frame start at one port's echo record: ageing, loss, issue (R110, R113). DESIGN CHOICE: the notices of
a loss are placed in the order OUTCOMES, PORT, and then STATE with what HALTED entry places (log 31). -/
def echoFrameStart (p : Port) (s : State) : State :=
  let b := (s.port p).ageOpening s.now
  if b.goesLost then ((s.withPort p b.ageEcho).losePort p).portLost p
  else s.withPort p b.ageEcho.frameStartIssue

/-- The latencies of port `p` formed anew and handed on where they change (R122, R132, R145). DESIGN CHOICE:
the OUTCOMES of destinations that their releases finish come here, before the LATE notices of the skips at the
event's end (log 31). -/
def relatency (p : Port) (s : State) : State :=
  let old := s.port p
  let new := old.withLatencies
  let s := s.withPort p (if new.latCue = old.latCue then new else new.reform s.clock)
  if new.latEvent = old.latEvent then s else s.refreshEvents (fun q => q = p)

/-- The guard of port `p` has changed: its scheduler and the queue form their instants anew (R122). DESIGN
CHOICE: OUTCOMES before LATE, as in `relatency` (log 31). -/
def reguard (p : Port) (s : State) : State :=
  (s.withPort p ((s.port p).reform s.clock)).refreshEvents (fun q => q = p)

/-- A port enters RUNNING (R115, R126). -/
def enterRunning (p : Port) (s : State) : State :=
  if s.deliversCues then s.withPort p ((s.port p).activate s.clock) else s

end State

end Sys2Proof.Machine
end

