-- ==== Sys2Proof/Machine/Frames.lean ====
section
/-! DEFINITION. The frame start of the whole hub, and the edge of the frame reference (R2, R7 to R16). -/

namespace Sys2Proof.Machine

namespace State

/-- The FRAME_START record of the current frame (R16). -/
def frameStartRecord (s : State) : FrameStartRecord :=
  ⟨s.clock.current, s.clock.st, s.clock.lastE, s.ctrl.st⟩

/-- The record is formed and handed to the host link, outside SETUP (R16, R182). -/
def handFrameStart (s : State) : State :=
  if s.ctrl.st = .setup then s else s.placeFrameStart s.frameStartRecord

/-- The controller at a frame start: the ramp step and the expiry of HOLDOVER, in the order of the choice
in force (R30, R35). -/
def controllerFrameStart (expired : Bool) (s : State) : State :=
  if expired then
    if s.choice.haltFirst then s.clockLost.rampStep else s.rampStep.clockLost
  else s.rampStep

/-- The record and the controller's step, in the order of the choice in force (R16). -/
def recordAndStep (expired : Bool) (s : State) : State :=
  if s.choice.recordFirst then s.handFrameStart.controllerFrameStart expired
  else (s.controllerFrameStart expired).handFrameStart

/-- The blocks that a build reads, at a frame start: controller, channels and generators (R66). -/
def sourcesFrameStart (renumbering expired : Bool) (s : State) : State :=
  ((s.recordAndStep expired).ageChannels).frameStartGenerators renumbering

/-- The scheduler of port `p` at a frame start (R132, R133). -/
def schedulerFrameStart (renumbering : Bool) (p : Port) (s : State) : State :=
  match (s.port p).sched with
  | none => s
  | some _ =>
    s.withPort p (if renumbering then (s.port p).takeFirst s.clock else (s.port p).reform s.clock)

/-- The schedulers and the event queue at a frame start, with what falls due in it (R132, R133, R145,
R158). DESIGN CHOICE: the OUTCOMES of destinations that their releases finish come before the LATE notices of
the skips, and the OUTCOMES of those past their latest start after them (logs 31, 38). -/
def deliveryFrameStart (renumbering : Bool) (s : State) : State :=
  let s :=
    ((s.schedulerFrameStart renumbering .vision).schedulerFrameStart renumbering
      .sound).schedulerFrameStart renumbering .cab
  let s := if renumbering then s.flushUnsent else s.refreshEvents (fun _ => true)
  s.finishLines

/-- The ports in the order in which they take the frame start (R36). -/
def portOrder (s : State) : List Port :=
  match s.choice.firstPort with
  | .vision => [.vision, .sound, .cab]
  | .sound => [.sound, .vision, .cab]
  | .cab => [.cab, .vision, .sound]

/-- The echo records at a frame start (R110, R113). -/
def echoesFrameStart (s : State) : State := s.portOrder.foldl (fun s p => s.echoFrameStart p) s

/-- The choice in force is used up (log 5). -/
def nextChoice (s : State) : State := s.withChoices s.choices.tail

/-- A frame start at now, whole: the clock, then every other block (R2, R16, R30, R47, R84, R90, R110,
R113, R132, R145, R158). DESIGN CHOICE: the controller's step and its CLOCK_LOST halt, and the FRAME_START record,
come before the echoes and the halt of a lost port, whatever the choice in force (log 32). -/
def frameStart (s : State) : State :=
  let renumbering := s.clock.renumber
  let expired := s.clock.st = .holdover && s.clock.frameStart.st = .acquire
  let s := s.clockFrameStart
  let s :=
    if s.choice.buildsFirst then
      ((s.deliveryFrameStart renumbering).sourcesFrameStart renumbering expired).echoesFrameStart
    else ((s.sourcesFrameStart renumbering expired).echoesFrameStart).deliveryFrameStart renumbering
  (s.finishLines.nextChoice).kick

/-- The frame in progress has reached its frame end at now (R2). -/
def frameEnded (s : State) : Bool := reached s.clock.frameEnd s.now

/-- A frame end that has been reached at now makes its frame start first: an edge at a frame end belongs
to the frame that begins there (R8). -/
def settleFrame (s : State) : State := if s.frameEnded then s.frameStart else s

/-- An edge of the reference at now (R7 to R15): ignored in FREE and in a frame that has captured. -/
def edge (s : State) : State :=
  if s.clock.st = .free ∨ s.clock.captured then s
  else
    let jumps := s.clock.jumps
    let s := s.clockCapture
    if jumps then s.frameStart else s.settleFrame.kick

/-- An edge of one source, ignored when the other one is selected (R7). -/
def edgeFrom (source : ClockSource) (s : State) : State :=
  let s := s.settleFrame
  if s.clock.set.source = source then s.edge else s

end State

end Sys2Proof.Machine
end

