-- ==== Sys2Proof/Machine/Cab.lean ====
section
/-! DEFINITION. The cab input unit (chapter 9): stamps, edges, triggers and resume conditions. -/

namespace Sys2Proof.Machine

/-- The frame and offset of an instant, by the ring (R163). DESIGN CHOICE: the offset is the distance itself, so
an instant at a frame's end that is taken before the frame start has the frame's length, which may lie one above
the bound of R163 (log 39). -/
def Clock.locate (c : Clock) (t : Instant) : Frame × Nat :=
  match c.ring.find? (fun e => reached e.start t) with
  | some e => (e.frame, (t - e.start).toNat)
  | none =>
    match c.ring.getLast? with
    | some e => (e.frame, 0)
    | none => (c.current, 0)

/-- The edge that a line shows between two words (R160). -/
def edgeOf (previous new : Word) (line : Fin 16) : Option EdgeKind :=
  match bitOf previous line, bitOf new line with
  | false, true => some .rising
  | true, false => some .falling
  | _, _ => none

/-- The qualifying edge of a line under its trigger type (R161). -/
def TriggerType.qualifies (t : TriggerType) (e : Option EdgeKind) : Option EdgeKind :=
  match t, e with
  | .rising, some .rising | .high, some .rising | .either, some .rising => some .rising
  | .falling, some .falling | .low, some .falling | .either, some .falling => some .falling
  | _, _ => .none

/-- Whether the line offers a generator trigger in this report (R162). -/
def TriggerType.offers (t : TriggerType) (e : Option EdgeKind) (bit : Bool) : Bool :=
  match t with
  | .high => bit
  | .low => !bit
  | _ => (t.qualifies e).isSome

/-- Whether a condition fires on a report (R170). -/
def ResumeCondition.fires (previous new : Word) (c : ResumeCondition) : Bool :=
  match c.type with
  | .none => false
  | .rising => !c.held && edgeOf previous new c.line = some .rising
  | .falling => !c.held && edgeOf previous new c.line = some .falling
  | .either => !c.held && (edgeOf previous new c.line).isSome
  | .high => !c.held && bitOf new c.line
  | .low => !c.held && !bitOf new c.line

/-- The flag after a report taken in PAUSED: a line that leaves its level clears it (R170). -/
def ResumeCondition.follow (new : Word) (c : ResumeCondition) : ResumeCondition :=
  match c.type with
  | .high => { c with held := c.held && bitOf new c.line }
  | .low => { c with held := c.held && !bitOf new c.line }
  | _ => c

namespace State

/-- A stamp is written at the tail of the FIFO, or discarded when it is full (R164, R167). -/
def writeStamp (source : StampSource) (edge : EdgeKind) (t : Instant) (s : State) : State :=
  if Config.stampFifoSize ≤ s.cab.fifo.length then s.withCab { s.cab with gapPending := true }
  else
    let at_ := s.clock.locate t
    let stamp : Stamp := ⟨source, edge, at_.1, at_.2, s.cab.gapPending⟩
    let first := s.cab.fifo.isEmpty
    let s := s.withCab { s.cab with fifo := s.cab.fifo ++ [stamp], gapPending := false }
    if first then s.placeStamps ⟨stamp, s.cab.fifo.length, s.clock.current⟩ else s

/-- One line of an INPUT report: its stamp and its generator triggers (R161, R162). -/
def takeLine (previous new : Word) (t : Instant) (s : State) (line : Fin 16) : State :=
  let type := s.cab.triggers[line]
  let edge := edgeOf previous new line
  let s :=
    match type.qualifies edge with
    | some e => s.writeStamp (.cabLine line) e t
    | none => s
  if type.offers edge (bitOf new line) then s.offerTrigger line t else s

/-- The controller takes a fired condition as a RESUME without a reply (R37). -/
def takeResume (s : State) (i : Fin 4) : State :=
  if s.ctrl.st ≠ .paused then s
  else if s.readyToResume then s.enterMotion (.resumeCondition i)
  else
    s.placeState
      ⟨.paused, .paused, .resumeRefused i s.clock.st s.notRunning, s.ctrl.reason, s.ctrl.f,
        s.clock.current⟩

/-- The resume conditions evaluated in PAUSED, and those that fire handed on in order (R170). -/
def evaluateConditions (previous new : Word) (s : State) : State :=
  if s.ctrl.st = .paused then
    let fired :=
      (List.finRange 4).filter (fun i => (s.cab.conditions[i]).fires previous new)
    let s :=
      s.withCab { s.cab with conditions := mapTable (ResumeCondition.follow new) s.cab.conditions }
    fired.foldl takeResume s
  else s

/-- The cab input unit takes an INPUT report with its instant (R160). -/
def takeInput (new : Word) (t : Instant) (s : State) : State :=
  let previous := s.cab.previous
  let s := (List.finRange 16).foldl (takeLine previous new t) s
  let s := s.evaluateConditions previous new
  (s.withCab { s.cab with previous := new }).kick

end State

end Sys2Proof.Machine
end

