-- ==== Sys2Proof/Machine/Reports.lean ====
section
/-! DEFINITION. Board reports (6.7, R112, R116 to R118, R123, R187): the inbound words of a port and what
its reports do. -/

namespace Sys2Proof.Machine

/-- The length in words of the report that a kind word names (11.4). -/
def reportLength (kind : Word) : Option Nat :=
  if kind = 1 then some 5 else if kind = 2 then some 3 else if kind = 3 then some 3 else none

/-- The sum word of a report (6.7). -/
def sumOf (words : List Word) : Word := words.foldl (· + ·) 0

namespace EchoRecord

/-- The round trip of a reply that arrived at `arrival` to an echo sent at `sent` (R112). -/
def roundTrip (sent arrival : Instant) : Int := diff arrival sent

/-- The line delay from a round trip and a turnaround (R112). -/
def lineDelayOf (trip : Int) (turnaround : Nat) : Nat := (ceilDivInt (trip - turnaround) 2).toNat

/-- The echo record after a reply taken (R112). -/
def answered (sent arrival : Instant) (delay turnaround : Word) (r : EchoRecord) : EchoRecord :=
  { r with
    outstanding := none
    missCount := 0
    intervalCount := 0
    lastRoundTrip := some (roundTrip sent arrival)
    turnaround := some turnaround.toNat
    declared := min Config.declaredMax delay.toNat
    lineDelay := lineDelayOf (roundTrip sent arrival) turnaround.toNat }

/-- The send instant of the outstanding echo, when the reply's number is its own and it has been sent
(R112, R187). -/
def matching (number : Word) (r : EchoRecord) : Option Instant :=
  match r.outstanding with
  | some o => if o.number.toNat = number.toNat then o.sent else none
  | none => none

end EchoRecord

namespace State

/-- An ECHO_REPLY report (R112, R115). DESIGN CHOICE: its notices are placed in the order OUTCOMES, PORT,
LATE (log 31). -/
def takeEchoReply (p : Port) (arrival : Instant) (number delay turnaround : Word) (s : State) :
    State :=
  let b := s.port p
  match b.echo.matching number with
  | none => s
  | some sent =>
    let s :=
      s.withPort p
        { b with st := .running, echo := b.echo.answered sent arrival delay turnaround }
    let s := s.relatency p
    let s := if b.st = .running then s else s.enterRunning p
    ((s.notePort p b.st .echoAnswered).finishLines).kick

/-- A PRESENTED report taken by a RUNNING port (R117, R123). -/
def takePresented (p : Port) (arrival : Instant) (frame : Frame) (s : State) : State :=
  match s.clock.ringStart frame with
  | none => s
  | some start =>
    let b := s.port p
    let sentAt := arrival - micro b.echo.lineDelay
    let error := diff sentAt (start + micro s.clock.set.presentPhase)
    (((s.withPort p (b.addError ⟨frame, error⟩)).relatency p).finishLines).kick

def countRxError (p : Port) (s : State) : State :=
  s.withPort p { s.port p with rxErrors := countUp 65535 1 (s.port p).rxErrors }

/-- A report whose sum is right, judged by the port's state (R94, R116). -/
def takeReport (p : Port) (arrival : Instant) (words : List Word) (s : State) : State :=
  match words with
  | [kind, number, delay, turnaround, _] =>
    if kind = 1 then s.takeEchoReply p arrival number delay turnaround else s
  | [kind, field, _] =>
    if kind = 2 then
      if (s.port p).st = .running then s.takePresented p arrival field else s
    else if kind = 3 then
      if p = .cab then s.takeInput field (arrival - micro (s.port p).echo.lineDelay) else s
    else s
  | _ => s

/-- The words of a whole report are judged at the last one (R116, R187). -/
def judgeReport (p : Port) (r : Inbound) (s : State) : State :=
  if sumOf r.words.dropLast = r.words.getLastD 0 then s.takeReport p r.arrival r.words
  else s.countRxError p

/-- One inbound word, received at `at_` (R187). A port in OFF takes none. -/
def takeWord (p : Port) (at_ : Instant) (word : Word) (s : State) : State :=
  if (s.port p).st = .off then s
  else
    match (s.port p).inbound with
    | none =>
      match reportLength word with
      | none => s.countRxError p
      | some _ => s.withPort p { s.port p with inbound := some ⟨[word], at_⟩ }
    | some r =>
      let r : Inbound := { r with words := r.words ++ [word] }
      if (reportLength (r.words.headD 0)).getD 0 ≤ r.words.length then
        (s.withPort p { s.port p with inbound := none }).judgeReport p r
      else s.withPort p { s.port p with inbound := some r }

/-- The time from word `i` of the `n` words of a report to its last word, which `span` microseconds separate
from its first: the words come evenly (R187, log 15). -/
def wordAge (span n i : Nat) : Nat := span - span * i / (n - 1)

/-- A port that has entered PROBING since a word was received, `age` microseconds ago, has not taken it: it
starts afresh with the next one (R187). -/
def hears (p : Port) (age : Nat) (s : State) : Bool :=
  match (s.port p).openedAt with
  | none => true
  | some t => decide (age ≤ (s.now - t).toNat)

/-- The words of a report whose kind word arrived `span` microseconds before now, its last word at now: each is
taken as received at its own instant (log 15). -/
def takeWords (p : Port) (span : Nat) (words : List Word) (s : State) : State :=
  words.zipIdx.foldl
    (fun s x =>
      let age := wordAge span words.length x.2
      if s.hears p age then s.takeWord p (s.now - micro age) x.1 else s)
    s

/-- A report of these words with its right sum word. -/
def takeSummed (p : Port) (span : Nat) (words : List Word) (s : State) : State :=
  s.takeWords p span (words ++ [sumOf words])

end State

end Sys2Proof.Machine
end

