-- ==== Sys2Proof/Machine/Operands.lean ====
section
/-! DEFINITION. The operands of requests: the code tables of 11.1, and the merged record of each masked
update with its checks (R5, R51, R58, R81, R97, R159, R168, R186). -/

namespace Sys2Proof.Machine

/-! ### Codes (11.1) -/

def flagOf (b : Byte) : Option Bool :=
  match b.toNat with
  | 0 => some false
  | 1 => some true
  | _ => none

def clockSourceOf (b : Byte) : Option ClockSource :=
  match b.toNat with
  | 0 => some .fsync
  | 1 => some .frameMark
  | _ => none

def stalePolicyOf (b : Byte) : Option StalePolicy :=
  match b.toNat with
  | 0 => some .hold
  | 1 => some .fade
  | 2 => some .zero
  | _ => none

def generatorModeOf (b : Byte) : Option GeneratorMode :=
  match b.toNat with
  | 0 => some .off
  | 1 => some .periodic
  | 2 => some .oneShot
  | _ => none

def latencySourceOf (b : Byte) : Option LatencySource :=
  match b.toNat with
  | 0 => some .declared
  | 1 => some .observed
  | 2 => some .fixed
  | _ => none

def triggerTypeOf (b : Byte) : Option TriggerType :=
  match b.toNat with
  | 0 => some .none
  | 1 => some .rising
  | 2 => some .falling
  | 3 => some .either
  | 4 => some .high
  | 5 => some .low
  | _ => none

def portOf (b : Byte) : Option Port :=
  match b.toNat with
  | 0 => some .vision
  | 1 => some .sound
  | 2 => some .cab
  | _ => none

/-- The port of a route: a port, or NONE as the inner `none`. -/
def routePortOf (b : Byte) : Option (Option Port) :=
  if b = 0xFF then some none else (portOf b).map some

/-- A route source: the number is not read for NONE and CONST. -/
def sourceOf (kind number : Byte) : Option Source :=
  match kind.toNat with
  | 0 => some .none
  | 1 => if h : number.toNat < 48 then some (.stream ⟨number.toNat, h⟩) else none
  | 2 => if h : number.toNat < 4 then some (.genLevel ⟨number.toNat, h⟩) else none
  | 3 => if h : number.toNat < 4 then some (.genRate ⟨number.toNat, h⟩) else none
  | 4 => some .const
  | _ => none

def lineOf (b : Byte) : Option (Fin 16) :=
  if h : b.toNat < 16 then some ⟨b.toNat, h⟩ else none

/-- A generator trigger line of the table: 0 .. 15 or NONE. -/
def isTriggerLine (b : Byte) : Bool := b = 0xFF || decide (b.toNat ≤ 15)

/-- The largest slot count of a port (R58, 6.2). -/
def maxSlots : Port → Nat
  | .vision => 12
  | .sound => 20
  | .cab => 32

def maxSlotsOf : Option Port → Nat
  | some p => maxSlots p
  | none => 32

/-! ### Masked fields -/

/-- The field of a merged record: the request's value under the mask, or the value held. -/
def pick {α : Type} {w : Nat} (mask : BitVec w) (i : Nat) (new held : α) : α :=
  if mask.getLsbD i then new else held

/-- A mask that names only the first `n` fields (R186). -/
def maskFits {w : Nat} (mask : BitVec w) (n : Nat) : Bool := decide (mask.toNat < 2 ^ n)

/-! ### SET_CLOCK (R5) -/

namespace ClockSettings

/-- The ranges of 1.5; PRESENT_PHASE is checked against the merged FRAME_LEN. -/
def inRange (c : ClockSettings) : Bool :=
  decide (1000 ≤ c.frameLen ∧ c.frameLen ≤ 20000 ∧ c.presentPhase < c.frameLen ∧
    1 ≤ c.trimMax ∧ c.trimMax ≤ 255 ∧ 1 ≤ c.lockWindow ∧ c.lockWindow ≤ 1000 ∧
    1 ≤ c.nLock ∧ c.nLock ≤ 31 ∧ 1 ≤ c.missLimit ∧ c.missLimit ≤ 15 ∧
    1 ≤ c.holdoverMax ∧ c.holdoverMax ≤ 1000)

/-- The merged record, when every field is in range (R5). -/
def merge (q : ClockRequest) (c : ClockSettings) : Option ClockSettings :=
  match pick q.mask 0 (clockSourceOf q.source) (some c.source) with
  | none => none
  | some source =>
    let m : ClockSettings :=
      { source := source
        frameLen := pick q.mask 1 q.frameLen.toNat c.frameLen
        presentPhase := pick q.mask 2 q.presentPhase.toNat c.presentPhase
        trimMax := pick q.mask 3 q.trimMax.toNat c.trimMax
        lockWindow := pick q.mask 4 q.lockWindow.toNat c.lockWindow
        nLock := pick q.mask 5 q.nLock.toNat c.nLock
        missLimit := pick q.mask 6 q.missLimit.toNat c.missLimit
        holdoverMax := pick q.mask 7 q.holdoverMax.toNat c.holdoverMax }
    if m.inRange then some m else none

end ClockSettings

/-- The mask names a SETUP-only clock setting: source, FRAME_LEN or PRESENT_PHASE (R5). -/
def ClockRequest.namesFixed (q : ClockRequest) : Bool :=
  q.mask.getLsbD 0 || q.mask.getLsbD 1 || q.mask.getLsbD 2

/-! ### SET_CHANNEL (R51) -/

namespace Channel

/-- The ranges of 3.1. -/
def inRange (c : Channel) : Bool :=
  decide (c.leadMax ≤ 20000 ∧ 1 ≤ c.staleLimit ∧ c.staleLimit ≤ 255 ∧ 1 ≤ c.fadeFrames ∧
    c.fadeFrames ≤ 255)

/-- The channel with its merged settings, when every field is in range (R51). -/
def merge (q : ChannelRequest) (c : Channel) : Option Channel :=
  match pick q.mask 2 (stalePolicyOf q.stalePolicy) (some c.stalePolicy) with
  | none => none
  | some policy =>
    let m : Channel :=
      { c with
        leadMax := pick q.mask 0 q.leadMax.toNat c.leadMax
        staleLimit := pick q.mask 1 q.staleLimit.toNat c.staleLimit
        stalePolicy := policy
        fadeFrames := pick q.mask 3 q.fadeFrames.toNat c.fadeFrames }
    if m.inRange then some m else none

end Channel

/-! ### SET_ROUTE (R57 to R59) -/

namespace Route

/-- The merged record under the checks of R58, in their order; `last` is as held. -/
def merge (q : RouteRequest) (r : Route) : Except RouteCheck Route :=
  match pick q.mask 0 (sourceOf q.sourceKind q.sourceNumber) (some r.source) with
  | none => .error .source
  | some source =>
    match pick q.mask 1 (routePortOf q.port) (some r.port) with
    | none => .error .port
    | some port =>
      let slot := pick q.mask 2 q.slot.toNat r.slot
      if maxSlotsOf port ≤ slot then .error .slot
      else
        let lo := pick q.mask 5 q.lo r.lo
        let hi := pick q.mask 6 q.hi r.hi
        let rest := pick q.mask 7 q.rest r.rest
        if rest.toInt < lo.toInt ∨ hi.toInt < rest.toInt then .error .limits
        else
          let slew := pick q.mask 8 q.slew.toNat r.slew
          if 32767 < slew then .error .slew
          else
            match pick q.mask 9 (flagOf q.lead) (some r.lead) with
            | none => .error .lead
            | some lead =>
              .ok
                { source := source
                  port := port
                  slot := slot
                  gain := pick q.mask 3 q.gain r.gain
                  offset := pick q.mask 4 q.offset r.offset
                  lo := lo
                  hi := hi
                  rest := rest
                  slew := slew
                  lead := lead
                  last := r.last }

/-- Two routes in use that name the same port and slot (R56, R59). -/
def sameClaim (a b : Route) : Bool := a.port.isSome && a.port = b.port && a.slot = b.slot

end Route

/-- The mask names source, port or slot (R57). -/
def RouteRequest.namesFixed (q : RouteRequest) : Bool :=
  q.mask.getLsbD 0 || q.mask.getLsbD 1 || q.mask.getLsbD 2

/-- Another route that holds the pair of `r` (R59). -/
def claimHolder (routes : Vector Route 64) (i : Fin 64) (r : Route) : Option (Fin 64) :=
  (List.finRange 64).find? (fun j => decide (j ≠ i) && r.sameClaim routes[j])

/-! ### SET_GENERATOR (R81, R82) -/

namespace Generator

/-- The generator after an accepted SET_GENERATOR with its mode decoded (R81, R82); `frameStart` is the
start of the current frame. -/
def update (q : GeneratorRequest) (mode : GeneratorMode) (frameStart : Instant) (g : Generator) :
    Generator :=
  ({ g with
      period := pick q.mask 1 q.period g.period
      highTime := pick q.mask 2 q.highTime g.highTime
      levelA := pick q.mask 3 q.levelA g.levelA
      levelB := pick q.mask 4 q.levelB g.levelB
      triggerLine := pick q.mask 5 q.triggerLine g.triggerLine } : Generator).changeMode mode frameStart

end Generator

/-! ### SET_PORT (R97) -/

namespace PortConfig

/-- The ranges of 6.2; the lead slot is checked against the merged slot count (R97). -/
def inRange (p : Port) (c : PortConfig) : Bool :=
  decide (1 ≤ c.slots ∧ c.slots ≤ maxSlots p ∧ (c.width = 1 ∨ c.width = 2 ∨ c.width = 4) ∧
    1 ≤ c.beatPeriod ∧ c.beatPeriod ≤ 16 ∧ c.leadSlot < c.slots ∧ c.fixedLatency ≤ 60000 ∧
    c.guard ≤ 2000 ∧ 1 ≤ c.echoInterval ∧ c.echoInterval ≤ 255 ∧ 1 ≤ c.skipLimit ∧
    c.skipLimit ≤ 15)

/-- The merged record, when every field is in range (R97). -/
def merge (q : PortRequest) (p : Port) (c : PortConfig) : Option PortConfig :=
  match pick q.mask 0 (flagOf q.enable) (some c.enable),
    pick q.mask 1 (flagOf q.essential) (some c.essential),
    pick q.mask 6 (latencySourceOf q.latencySource) (some c.latencySource) with
  | some enable, some essential, some source =>
    let m : PortConfig :=
      { enable := enable
        essential := essential
        slots := pick q.mask 2 q.slots.toNat c.slots
        width := pick q.mask 3 q.width.toNat c.width
        beatPeriod := pick q.mask 4 q.beatPeriod.toNat c.beatPeriod
        leadSlot := pick q.mask 5 q.leadSlot.toNat c.leadSlot
        latencySource := source
        fixedLatency := pick q.mask 7 q.fixedLatency.toNat c.fixedLatency
        guard := pick q.mask 8 q.guard.toNat c.guard
        echoInterval := pick q.mask 9 q.echoInterval.toNat c.echoInterval
        skipLimit := pick q.mask 10 q.skipLimit.toNat c.skipLimit }
    if m.inRange p then some m else none
  | _, _, _ => none

end PortConfig

/-- The mask names a SETUP-only field of a port (R97). -/
def PortRequest.namesFixed (q : PortRequest) : Bool :=
  q.mask.getLsbD 0 || q.mask.getLsbD 1 || q.mask.getLsbD 2 || q.mask.getLsbD 3 ||
    q.mask.getLsbD 4 || q.mask.getLsbD 5

/-! ### SET_TRIGGERS and SET_RESUME (R159, R168) -/

/-- The 16 types after the request, when every masked code is a type (R159). -/
def mergeTriggers (q : TriggersRequest) (held : Vector TriggerType 16) :
    Option (Vector TriggerType 16) :=
  if (List.finRange 16).all
      (fun i => !q.mask.getLsbD i.val || (triggerTypeOf q.types[i]).isSome) then
    some
      (mapTable
        (fun i : Fin 16 => pick q.mask i.val ((triggerTypeOf q.types[i]).getD held[i]) held[i])
        ⟨⟨List.finRange 16⟩, by simp⟩)
  else none

/-- A condition as written, less its flag. -/
def conditionOf (q : Byte × Byte) : Option ResumeCondition :=
  match lineOf q.1, triggerTypeOf q.2 with
  | some line, some type => some ⟨line, type, false⟩
  | _, _ => none

/-- The four conditions after the request, when every masked pair is in range; each written one takes
its flag by `flag` (R168). -/
def mergeConditions (q : ResumeRequest) (flag : ResumeCondition → ResumeCondition)
    (held : Vector ResumeCondition 4) : Option (Vector ResumeCondition 4) :=
  if (List.finRange 4).all
      (fun i => !q.mask.getLsbD i.val || (conditionOf q.conditions[i]).isSome) then
    some
      (mapTable
        (fun i : Fin 4 =>
          pick q.mask i.val (flag ((conditionOf q.conditions[i]).getD held[i])) held[i])
        ⟨⟨List.finRange 4⟩, by simp⟩)
  else none

end Sys2Proof.Machine
end

