-- ==== Sys2Proof/Machine/Requests.lean ====
section
/-! DEFINITION. The owners of the requests: each checks its request, acts on it and gives the items of its
reply (R5, R20 to R28, R51, R57 to R63, R81, R87, R91, R97, R98, R142 to R144, R153, R156, R159, R165,
R166, R168, R184, R186). A refused request leaves the state as it was. -/

namespace Sys2Proof.Machine

namespace State

/-! ### HUB_COMMAND (R20 to R28) -/

def hubBody (detail : HubDetail) (s : State) : ReplyBody :=
  .hub s.ctrl.st s.ctrl.f s.ctrl.reason s.ctrl.rampIn s.ctrl.rampOut detail

/-- The masked ramp fields are written (R20). -/
def writeRamps (q : RampRequest) (s : State) : State :=
  s.withCtrl
    { s.ctrl with
      rampIn := pick q.mask 0 q.rampIn.toNat s.ctrl.rampIn
      rampOut := pick q.mask 1 q.rampOut.toNat s.ctrl.rampOut }

/-- The four steps of R20 for one command: the states that accept it, its readiness check, its act. -/
def hubCommand (q : RampRequest) (accepts : HubState → Bool)
    (check : State → Option (Result × HubDetail)) (act : State → State) (s : State) : Answer :=
  if !maskFits q.mask 2 then ⟨s, .badValue, s.hubBody .none⟩
  else if !accepts s.ctrl.st then ⟨s, .wrongState, s.hubBody .none⟩
  else
    match check s with
    | some (result, detail) => ⟨s, result, s.hubBody detail⟩
    | none =>
      let t := act (s.writeRamps q)
      ⟨t, .ok, t.hubBody .none⟩

def noCheck (_ : State) : Option (Result × HubDetail) := none

/-- A command code outside the seven (R20). -/
def commandUnknown (s : State) : Answer := ⟨s, .badValue, s.hubBody .none⟩

def commandNone (q : RampRequest) (s : State) : Answer :=
  s.hubCommand q (fun _ => true) noCheck id

/-- The states that accept SETUP (R21). -/
def setupAccepts : HubState → Bool
  | .setup | .armed | .paused | .halted => true
  | .rampIn | .live | .rampOut => false

/-- SETUP in SETUP changes nothing but the masked ramp fields (R21, log 30). -/
def actSetup (s : State) : State := if s.ctrl.st = .setup then s else s.enterSetup

def commandSetup (q : RampRequest) (s : State) : Answer :=
  s.hubCommand q setupAccepts noCheck actSetup

def configCheck (s : State) : Option (Result × HubDetail) :=
  s.configFault.map (fun item => (.badConfig, .config item))

def commandArm (q : RampRequest) (s : State) : Answer :=
  s.hubCommand q (fun st => st = .setup) configCheck enterArmed

def goCheck (s : State) : Option (Result × HubDetail) :=
  if s.readyToGo then none else some (.notReady, .notReady s.clock.st s.notRunning)

def commandGo (q : RampRequest) (s : State) : Answer :=
  s.hubCommand q (fun st => st = .armed) goCheck (enterMotion .command)

/-- PAUSE accepted (R26). -/
def actPause (s : State) : State :=
  if s.ctrl.rampOut = 0 then (s.enterPaused .command).finishLines
  else s.changeHub .rampOut s.ctrl.reason s.ctrl.f .command

def commandPause (q : RampRequest) (s : State) : Answer :=
  s.hubCommand q (fun st => st = .rampIn || st = .live) noCheck actPause

def resumeCheck (s : State) : Option (Result × HubDetail) :=
  if s.readyToResume then none else some (.notReady, .notReady s.clock.st s.notRunning)

def commandResume (q : RampRequest) (s : State) : Answer :=
  s.hubCommand q (fun st => st = .paused || st = .rampOut) resumeCheck (enterMotion .command)

/-- HALT in HALTED changes nothing but the masked ramp fields (R28, log 30). -/
def actHalt (s : State) : State :=
  if s.ctrl.st = .halted then s else (s.enterHalted .command .command).finishLines

def commandHalt (q : RampRequest) (s : State) : Answer :=
  s.hubCommand q (fun st => decide (st ≠ .setup)) noCheck actHalt

/-! ### SET_CLOCK (R5, R6) -/

/-- The merged settings replace the held ones; a change of FRAME_LEN re-fixes the frame in progress, which
may end at once (R6). -/
def writeClock (m : ClockSettings) (s : State) : State :=
  let c : Clock := { s.clock with set := m }
  if m.frameLen = s.clock.set.frameLen then s.withClock c else (s.withClock c.refix).settleFrame

def ownSetClock (q : ClockRequest) (s : State) : Answer :=
  if s.ctrl.st ≠ .setup ∧ ClockRequest.namesFixed q then ⟨s, .wrongState, .clock s.clock.set⟩
  else
    match s.clock.set.merge q with
    | none => ⟨s, .badValue, .clock s.clock.set⟩
    | some m =>
      let t := s.writeClock m
      ⟨t, .ok, .clock t.clock.set⟩

/-! ### SET_CHANNEL (R51) -/

def channelBody (n : Byte) (s : State) : ReplyBody :=
  .channel n (if h : n.toNat < 48 then some s.channels[n.toNat] else none)

def ownSetChannel (q : ChannelRequest) (s : State) : Answer :=
  let refused : Answer := ⟨s, .badValue, s.channelBody q.channel⟩
  if !maskFits q.mask 4 then refused
  else if h : q.channel.toNat < 48 then
    match s.channels[q.channel.toNat].merge q with
    | none => refused
    | some c =>
      let t := s.withChannels (s.channels.set q.channel.toNat c)
      ⟨t, .ok, t.channelBody q.channel⟩
  else refused

/-! ### SET_ROUTE, CLEAR_ROUTE, GET_ROUTE (R57 to R63) -/

def routeBody (index : Byte) (detail : RouteDetail) (s : State) : ReplyBody :=
  if h : index.toNat < 64 then
    .route index (some s.routes[index.toNat]) s.routes[index.toNat].port.isSome detail
  else .route index none false detail

/-- An accepted SET_ROUTE: in SETUP the route's last becomes its rest (R60). -/
def writeRoute (i : Fin 64) (m : Route) (s : State) : State :=
  s.withRoutes (s.routes.set i (if s.ctrl.st = .setup then { m with last := m.rest } else m))

/-- Steps 3 and 4 of R57. -/
def judgeRoute (q : RouteRequest) (i : Fin 64) (s : State) : Answer :=
  match s.routes[i].merge q with
  | .error check => ⟨s, .badValue, s.routeBody q.route (.check check)⟩
  | .ok m =>
    match claimHolder s.routes i m with
    | some j => ⟨s, .slotTaken, s.routeBody q.route (.taken j)⟩
    | none =>
      let t := s.writeRoute i m
      ⟨t, .ok, t.routeBody q.route .none⟩

def ownSetRoute (q : RouteRequest) (s : State) : Answer :=
  if !maskFits q.mask 10 then ⟨s, .badValue, s.routeBody q.route .none⟩
  else if h : q.route.toNat < 64 then
    if s.ctrl.st ≠ .setup ∧ RouteRequest.namesFixed q then
      ⟨s, .wrongState, s.routeBody q.route .none⟩
    else s.judgeRoute q ⟨q.route.toNat, h⟩
  else ⟨s, .badValue, s.routeBody q.route .none⟩

def ownClearRoute (index : Byte) (s : State) : Answer :=
  if h : index.toNat < 64 then
    if s.ctrl.st ≠ .setup then ⟨s, .wrongState, .bare⟩
    else
      let t := s.withRoutes (s.routes.set index.toNat Reset.route)
      ⟨t, .ok, t.routeBody index .none⟩
  else ⟨s, .badValue, .bare⟩

def ownGetRoute (index : Byte) (s : State) : Answer :=
  if index.toNat < 64 then ⟨s, .ok, s.routeBody index .none⟩ else ⟨s, .badValue, .bare⟩

/-! ### SET_GENERATOR, START_GENERATOR, STOP_GENERATOR (R81, R87, R91) -/

def generatorBody (index : Byte) (modeHeld : Option GeneratorMode) (s : State) : ReplyBody :=
  if h : index.toNat < 4 then
    .generator index (some s.gens[index.toNat]) s.gens[index.toNat].rate modeHeld
  else .generator index none 0 modeHeld

/-- The merged trigger line passes: any code in SETUP, else NONE or 0 .. 15 (R81). -/
def lineAllowed (line : Byte) (s : State) : Bool := s.ctrl.st = .setup || isTriggerLine line

def ownSetGenerator (q : GeneratorRequest) (s : State) : Answer :=
  let refused : Answer := ⟨s, .badValue, s.generatorBody q.generator none⟩
  if !maskFits q.mask 6 then refused
  else if h : q.generator.toNat < 4 then
    let g := s.gens[q.generator.toNat]
    match pick q.mask 0 (generatorModeOf q.mode) (some g.mode) with
    | none => refused
    | some mode =>
      if s.lineAllowed (pick q.mask 5 q.triggerLine g.triggerLine) then
        let t := s.withGens (s.gens.set q.generator.toNat (g.update q mode s.clock.start))
        ⟨t, .ok, t.generatorBody q.generator none⟩
      else refused
  else refused

def ownStartGenerator (index : Byte) (s : State) : Answer :=
  if h : index.toNat < 4 then
    let g := s.gens[index.toNat]
    if s.ctrl.st = .setup then ⟨s, .wrongState, s.generatorBody index none⟩
    else if g.mode ≠ .oneShot then ⟨s, .wrongState, s.generatorBody index (some g.mode)⟩
    else if g.runState ≠ .idle then ⟨s, .inProgress, s.generatorBody index none⟩
    else
      let t := s.withGens (s.gens.set index.toNat (g.trigger s.now))
      ⟨t, .ok, t.generatorBody index none⟩
  else ⟨s, .badValue, s.generatorBody index none⟩

def ownStopGenerator (index : Byte) (s : State) : Answer :=
  if h : index.toNat < 4 then
    ⟨s.withGens (s.gens.set index.toNat s.gens[index.toNat].stop), .ok, .bare⟩
  else ⟨s, .badValue, .bare⟩

/-! ### SET_PORT, GET_PORT (R97, R98, R122) -/

def portConfigBody (n : Byte) (s : State) : ReplyBody :=
  .portConfig n ((portOf n).map (fun p => (s.port p).cfg))

/-- An accepted SET_PORT: the port's latencies and, when its guard has changed, its instants are formed
anew (R98, R122). -/
def writePort (p : Port) (m : PortConfig) (s : State) : State :=
  let old := (s.port p).cfg
  if m = old then s
  else
    let s := (s.withPort p { s.port p with cfg := m }).relatency p
    (if m.guard = old.guard then s else s.reguard p).finishLines

def ownSetPort (q : PortRequest) (s : State) : Answer :=
  if !maskFits q.mask 11 then ⟨s, .badValue, s.portConfigBody q.port⟩
  else
    match portOf q.port with
    | none => ⟨s, .badValue, s.portConfigBody q.port⟩
    | some p =>
      if s.ctrl.st ≠ .setup ∧ PortRequest.namesFixed q then
        ⟨s, .wrongState, s.portConfigBody q.port⟩
      else
        match (s.port p).cfg.merge q p with
        | none => ⟨s, .badValue, s.portConfigBody q.port⟩
        | some m =>
          let t := s.writePort p m
          ⟨t, .ok, t.portConfigBody q.port⟩

/-- The echo record's items of GET_PORT (R98). -/
def echoReport (r : EchoRecord) : EchoReport where
  next := r.next
  outstanding := r.outstanding.map (fun o => (o.number, o.age, o.sent.isSome))
  missCount := r.missCount
  lastRoundTrip := r.lastRoundTrip
  turnaround := r.turnaround
  declared := r.declared
  lineDelay := r.lineDelay

def portReport (p : Port) (s : State) : PortReport where
  cfg := (s.port p).cfg
  st := (s.port p).st
  echo := echoReport (s.port p).echo
  wait := (s.port p).wait
  abort := (s.port p).abort
  inFlight := (s.port p).inFlight.map (fun fl => (fl.packet.kind, fl.packet.frame))
  rxErrors := (s.port p).rxErrors
  latency := (s.port p).latCue
  skipCount := (s.port p).skipCount
  partialCount := (s.port p).partialCount

def ownGetPort (n : Byte) (s : State) : Answer :=
  match portOf n with
  | none => ⟨s, .badValue, .bare⟩
  | some p => ⟨s, .ok, .portReport n (some (s.portReport p))⟩

/-! ### SET_TRIGGERS, SET_RESUME (R159, R168) -/

def ownSetTriggers (q : TriggersRequest) (s : State) : Answer :=
  match mergeTriggers q s.cab.triggers with
  | none => ⟨s, .badValue, .bare⟩
  | some types =>
    ⟨s.withCab { s.cab with triggers := types }, .ok, .triggers types s.cab.previous⟩

/-- The flag of a condition as written: the snapshot's in PAUSED, no in any other state (R168). -/
def writtenFlag (s : State) (c : ResumeCondition) : ResumeCondition :=
  if s.ctrl.st = .paused then c.snapshot s.cab.previous else { c with held := false }

def ownSetResume (q : ResumeRequest) (s : State) : Answer :=
  if !maskFits q.mask 4 then ⟨s, .badValue, .bare⟩
  else
    match mergeConditions q s.writtenFlag s.cab.conditions with
    | none => ⟨s, .badValue, .bare⟩
    | some conditions =>
      ⟨s.withCab { s.cab with conditions := conditions }, .ok, .conditions conditions⟩

/-! ### STAMP_NOW, READ_STAMPS (R165, R166) -/

def ownStampNow (s : State) : Answer :=
  if s.ctrl.st = .setup then ⟨s, .wrongState, .bare⟩
  else
    let place := s.clock.locate s.now
    let t := s.writeStamp .linkRequest .request s.now
    ⟨t, .ok,
      .stampNow place.1 place.2 (decide (s.cab.fifo.length < Config.stampFifoSize))
        t.cab.fifo.length⟩

/-- A count that READ_STAMPS and READ_OUTCOMES take (R156, R166). -/
def countAllowed (count : Byte) : Bool := decide (1 ≤ count.toNat ∧ count.toNat ≤ 8)

def ownReadStamps (count : Byte) (s : State) : Answer :=
  if countAllowed count then
    let left := s.cab.fifo.drop count.toNat
    ⟨s.withCab { s.cab with fifo := left }, .ok,
      .stamps (s.cab.fifo.take count.toNat) left.length s.cab.gapPending⟩
  else ⟨s, .badValue, .bare⟩

/-! ### EVENT_POST (R142 to R144) -/

/-- The ports of a destination set, in the order VISION, SOUND, CAB. -/
def destinationsOf (set : Byte) : List Port :=
  allPorts.filter
    (fun p =>
      match p with
      | .vision => set.getLsbD 0
      | .sound => set.getLsbD 1
      | .cab => set.getLsbD 2)

/-- Check 2 of R142. -/
def postInRange (q : PostRequest) : Bool :=
  decide (q.kind.toNat ≤ 15 ∧ q.shape.toNat ≤ 15 ∧ 1 ≤ q.duration.toNat ∧ q.slipLimit.toNat ≤ 15 ∧
    1 ≤ q.destinations.toNat ∧ q.destinations.toNat ≤ 7)

/-- Check 4 of R142: the base frame, or the result of the refusal. -/
def baseFrame (c : Clock) (f : Frame) : Except Result Frame :=
  let d := frameDist c.current f
  if f = 0xFFFF then .ok (c.current + 1)
  else if 1 ≤ d ∧ d ≤ 255 then .ok f
  else if d = 0 ∨ 32768 < d then .error .tooLate
  else if d = 32768 then .error (if Config.postAtHalfRangeIsLate then .tooLate else .badValue)
  else .error .badValue

/-- The event release of a frame on a port, as predicted now (R143). -/
def eventReleaseAt (s : State) (f : Frame) (p : Port) : Instant :=
  (s.port p).eventRelease (s.clock.presentationOr f s.now)

/-- The destinations whose release for `f` lies before now (R143). -/
def lateDestinations (s : State) (dests : List Port) (f : Frame) : List Port :=
  dests.filter (fun p => past (s.eventReleaseAt f p) s.now)

/-- The slip search from `f` over at most `n` further frames, `used` frames after the base frame: the
frame with its slip, or the latest frame tried (R143). -/
def slipSearch (s : State) (dests : List Port) : Nat → Nat → Frame → Except Frame (Frame × Nat)
  | n, used, f =>
    if (s.lateDestinations dests f).isEmpty then .ok (f, used)
    else
      match n with
      | 0 => .error f
      | n + 1 => slipSearch s dests n (used + 1) (f + 1)

/-- The destination whose release for `f` lies furthest before now (R143); among equal ones a free value
chooses (log 17). -/
def furthestLate (s : State) (dests : List Port) (f : Frame) : Option Port :=
  let lag (p : Port) : Int := diff s.now (s.eventReleaseAt f p)
  let late := s.lateDestinations dests f
  match late.filter (fun p => late.all (fun q => decide (lag q ≤ lag p))) with
  | [p] => some p
  | ps => ps[Config.furthestAmongEqual (s.now.toNat * 65536 + f.toNat) % ps.length]?

/-- The entry that an admitted event becomes, before releases reached at admission (R144). -/
def newEntry (s : State) (q : PostRequest) (f : Frame) (used : Nat) : Entry where
  tag := q.eventTag
  kind := q.kind
  shape := q.shape
  amplitude := q.amplitude
  duration := q.duration
  frame := f
  slipLimit := q.slipLimit.toNat
  slipUsed := used
  st := .active
  dests :=
    (destinationsOf q.destinations).map
      (fun p =>
        ⟨p, .waiting (s.eventReleaseAt f p)
          ((s.port p).eventLatest (s.clock.presentationOr f s.now)), none, 0, none⟩)

/-- The event is admitted for frame `f` (R144): it joins the queue, and a destination whose release is now
is released at once. -/
def admitEntry (q : PostRequest) (f : Frame) (used : Nat) (s : State) : State :=
  let fresh := s.newEntry q f used
  let e := { fresh with dests := fresh.dests.map (Destination.releaseIfReached s) }
  let t := s.withQueue (insertEntry e s.queue)
  if e.dests.all Destination.isWaiting then t else (t.settleEntry e).finishLines

def postBody (q : PostRequest) (admitted : Option (Frame × Nat)) (detail : PostDetail) (s : State) :
    ReplyBody :=
  .post q.eventTag admitted s.queue.length s.doneCount detail

/-- Checks 5 to 7 of R142 from the base frame on. -/
def postFrom (q : PostRequest) (base : Frame) (s : State) : Answer :=
  match s.queue.find? (fun e => e.tag = q.eventTag) with
  | some e => ⟨s, .tagInUse, s.postBody q none (.held e.st)⟩
  | none =>
    if Config.eventQueueSize ≤ s.queue.length then
      ⟨s, .queueFull, s.postBody q none (.doneEntries s.doneCount)⟩
    else
      match slipSearch s (destinationsOf q.destinations) q.slipLimit.toNat 0 base with
      | .error f =>
        ⟨s, .tooLate,
          s.postBody q none
            (match s.furthestLate (destinationsOf q.destinations) f with
              | some p => .unreachable f p
              | none => .none)⟩
      | .ok (f, used) =>
        let t := s.admitEntry q f used
        ⟨t, .ok, t.postBody q (some (f, used)) .none⟩

def ownEventPost (q : PostRequest) (s : State) : Answer :=
  if !s.admitsEvents then ⟨s, .wrongState, s.postBody q none .none⟩
  else if !postInRange q then ⟨s, .badValue, s.postBody q none .none⟩
  else
    match (destinationsOf q.destinations).find? (fun p => !(s.port p).cfg.enable) with
    | some p => ⟨s, .badValue, s.postBody q none (.notEnabled p)⟩
    | none =>
      match baseFrame s.clock q.frame with
      | .error r => ⟨s, r, s.postBody q none .none⟩
      | .ok base => s.postFrom q base

/-! ### EVENT_CANCEL, READ_OUTCOMES (R153, R156) -/

def cancelBody (e : Entry) : ReplyBody :=
  .cancel e.frame (e.dests.map (fun d => ⟨d.port, d.outcome, d.progress⟩))

/-- Every destination WAITING in an ACTIVE entry (R153). -/
def cancellable (e : Entry) : Bool := e.st = .active && e.dests.all Destination.isWaiting

def ownEventCancel (tag : Byte) (s : State) : Answer :=
  match s.queue.find? (fun e => e.tag = tag) with
  | none => ⟨s, .noEntry, .bare⟩
  | some e =>
    if cancellable e then
      let dropped := { e with dests := e.dests.map Destination.drop }
      let t := s.mapDests (fun x d => if x.tag = tag then d.drop else d)
      ⟨t.settleEntry dropped, .ok, cancelBody dropped⟩
    else ⟨s, .inProgress, cancelBody e⟩

/-- The queue less its first `n` DONE entries (R156). -/
def dropDone : Nat → List Entry → List Entry
  | 0, q => q
  | _ + 1, [] => []
  | n + 1, e :: es => if e.isDone then dropDone n es else e :: dropDone (n + 1) es

def ownReadOutcomes (count : Byte) (s : State) : Answer :=
  if countAllowed count then
    let taken := (s.queue.filter Entry.isDone).take count.toNat
    let t := s.withQueue (dropDone count.toNat s.queue)
    ⟨t, .ok,
      .outcomes (taken.map Entry.report) t.doneCount (t.queue.countP (fun e => !e.isDone))⟩
  else ⟨s, .badValue, .bare⟩

/-! ### GET_STATUS (R184) -/

def portStatus (p : Port) (s : State) : PortStatus where
  st := (s.port p).st
  latency := (s.port p).latCue
  lineDelay := (s.port p).echo.lineDelay
  skipCount := (s.port p).skipCount
  partialCount := (s.port p).partialCount
  rxErrors := (s.port p).rxErrors

def statusReport (s : State) : StatusReport where
  hub := s.ctrl.st
  reason := s.ctrl.reason
  clock := s.clock.st
  frame := s.clock.current
  lastE := s.clock.lastE
  vision := s.portStatus .vision
  sound := s.portStatus .sound
  cab := s.portStatus .cab
  linkErrors := s.link.linkErrors
  overruns := s.link.overruns
  discards := s.discards
  entries := s.queue.length
  doneEntries := s.doneCount
  stamps := s.cab.fifo.length

def ownGetStatus (s : State) : Answer := ⟨s, .ok, .status s.statusReport⟩

end State

end Sys2Proof.Machine
end

