-- ==== Sys2Proof/Machine/Records.lean ====
section
/-! DEFINITION. Good records (R178) and the bytes of their payloads (11.1, 11.2). -/

namespace Sys2Proof.Machine

/-! ### Payload fields, high byte first -/

def byteAt (p : List Byte) (i : Nat) : Byte := p.getD i 0

def wordAt (p : List Byte) (i : Nat) : Word := byteAt p i ++ byteAt p (i + 1)

/-! ### The payload of each request (11.1, 11.2) -/

def rampRequestOf (p : List Byte) : RampRequest := ⟨byteAt p 1, byteAt p 2, byteAt p 3⟩

def clockRequestOf (p : List Byte) : ClockRequest :=
  ⟨byteAt p 0, byteAt p 1, wordAt p 2, wordAt p 4, wordAt p 6, wordAt p 8, byteAt p 10, byteAt p 11,
    wordAt p 12⟩

def channelRequestOf (p : List Byte) : ChannelRequest :=
  ⟨byteAt p 0, byteAt p 1, wordAt p 2, byteAt p 4, byteAt p 5, byteAt p 6⟩

def routeRequestOf (p : List Byte) : RouteRequest :=
  ⟨byteAt p 0, wordAt p 1, byteAt p 3, byteAt p 4, byteAt p 5, byteAt p 6, wordAt p 7, wordAt p 9,
    wordAt p 11, wordAt p 13, wordAt p 15, wordAt p 17, byteAt p 19⟩

def portRequestOf (p : List Byte) : PortRequest :=
  ⟨byteAt p 0, wordAt p 1, byteAt p 3, byteAt p 4, byteAt p 5, byteAt p 6, wordAt p 7, byteAt p 9,
    byteAt p 10, wordAt p 11, wordAt p 13, byteAt p 15, byteAt p 16⟩

def generatorRequestOf (p : List Byte) : GeneratorRequest :=
  ⟨byteAt p 0, byteAt p 1, byteAt p 2, wordAt p 3, wordAt p 5, wordAt p 7, wordAt p 9, byteAt p 11⟩

def triggersRequestOf (p : List Byte) : TriggersRequest :=
  ⟨wordAt p 0, Vector.ofFn (fun i => byteAt p (2 + i.val))⟩

def resumeRequestOf (p : List Byte) : ResumeRequest :=
  ⟨byteAt p 0, Vector.ofFn (fun i => (byteAt p (1 + 2 * i.val), byteAt p (2 + 2 * i.val)))⟩

def postRequestOf (p : List Byte) : PostRequest :=
  ⟨byteAt p 0, byteAt p 1, byteAt p 2, wordAt p 3, byteAt p 5, byteAt p 6, byteAt p 7, wordAt p 8⟩

/-- The pairs of a SAMPLES payload. -/
def samplePairs (p : List Byte) : List (Byte × Cue) :=
  (List.range (byteAt p 4).toNat).map (fun i => (byteAt p (5 + 3 * i), wordAt p (6 + 3 * i)))

/-- The pair counts a SAMPLES record may have (R178). -/
def pairCountFits (n : Nat) : Bool := decide (1 ≤ n ∧ n ≤ 48)

/-- The pair count is in range and agrees with LEN (R178). -/
def samplesFit (p : List Byte) : Bool :=
  pairCountFits (byteAt p 4).toNat && p.length = 5 + 3 * (byteAt p 4).toNat

/-! ### Kinds (11.1) -/

/-- The LEN of the request that a KIND names, of those that get a reply. -/
def requestLength (kind : Byte) : Option Nat :=
  match kind.toNat with
  | 0x01 => some 4
  | 0x02 => some 14
  | 0x03 => some 7
  | 0x04 => some 20
  | 0x05 => some 1
  | 0x06 => some 1
  | 0x07 => some 17
  | 0x08 => some 1
  | 0x09 => some 12
  | 0x0A => some 1
  | 0x0B => some 1
  | 0x0C => some 18
  | 0x0D => some 9
  | 0x10 => some 10
  | 0x11 => some 1
  | 0x12 => some 1
  | 0x13 => some 0
  | 0x14 => some 1
  | 0x15 => some 0
  | _ => none

namespace State

/-- HUB_COMMAND by its command code (R20, 11.2). -/
def ownHubCommand (p : List Byte) (s : State) : Answer :=
  match (byteAt p 0).toNat with
  | 0 => s.commandNone (rampRequestOf p)
  | 1 => s.commandSetup (rampRequestOf p)
  | 2 => s.commandArm (rampRequestOf p)
  | 3 => s.commandGo (rampRequestOf p)
  | 4 => s.commandPause (rampRequestOf p)
  | 5 => s.commandResume (rampRequestOf p)
  | 6 => s.commandHalt (rampRequestOf p)
  | _ => s.commandUnknown

/-- The request of this KIND handed to its owner (R178). -/
def ownRequest (kind : Byte) (p : List Byte) (s : State) : Answer :=
  match kind.toNat with
  | 0x01 => s.ownHubCommand p
  | 0x02 => s.ownSetClock (clockRequestOf p)
  | 0x03 => s.ownSetChannel (channelRequestOf p)
  | 0x04 => s.ownSetRoute (routeRequestOf p)
  | 0x05 => s.ownClearRoute (byteAt p 0)
  | 0x06 => s.ownGetRoute (byteAt p 0)
  | 0x07 => s.ownSetPort (portRequestOf p)
  | 0x08 => s.ownGetPort (byteAt p 0)
  | 0x09 => s.ownSetGenerator (generatorRequestOf p)
  | 0x0A => s.ownStartGenerator (byteAt p 0)
  | 0x0B => s.ownStopGenerator (byteAt p 0)
  | 0x0C => s.ownSetTriggers (triggersRequestOf p)
  | 0x0D => s.ownSetResume (resumeRequestOf p)
  | 0x10 => s.ownEventPost (postRequestOf p)
  | 0x11 => s.ownEventCancel (byteAt p 0)
  | 0x12 => s.ownReadOutcomes (byteAt p 0)
  | 0x13 => s.ownStampNow
  | 0x14 => s.ownReadStamps (byteAt p 0)
  | 0x15 => s.ownGetStatus
  | _ => ⟨s, .unknownKind, .bare⟩

/-- Steps 3 to 5 of R178. -/
def judgeRequest (kind : Byte) (p : List Byte) (s : State) : Answer :=
  match requestLength kind with
  | none => ⟨s, .unknownKind, .bare⟩
  | some n =>
    if p.length = n then s.ownRequest kind p else ⟨s, .badLength, .badLength p.length⟩

def countLinkError (s : State) : State :=
  s.withLink { s.link with linkErrors := countUp 65535 1 s.link.linkErrors }

/-- A good record at its completion instant (R178). -/
def takeRecord (kind tag : Byte) (p : List Byte) (s : State) : State :=
  if kind = 0x0E then
    if samplesFit p then s.takeSamples (wordAt p 0) (wordAt p 2) (samplePairs p)
    else s.countLinkError
  else if kind = 0x0F then
    if p.isEmpty then s.edgeFrom .frameMark else s.countLinkError
  else answer kind tag (judgeRequest kind p) s

end State

end Sys2Proof.Machine
end

