-- ==== Sys2Proof/Machine/Framer.lean ====
section
/-! DEFINITION. The receive framer (R173 to R177): bytes, candidates, the CRC, rescans and the gap. -/

namespace Sys2Proof.Machine

/-! ### The CRC (R174) -/

/-- One step of the CRC register on a bit. -/
def crcBit (r : Word) (bit : Bool) : Word :=
  if r.getLsbD 15 != bit then (r <<< 1) ^^^ 0x1021 else r <<< 1

/-- The CRC register after a byte, its most significant bit first. -/
def crcByte (r : Word) (b : Byte) : Word :=
  [7, 6, 5, 4, 3, 2, 1, 0].foldl (fun r i => crcBit r (b.getLsbD i)) r

/-- The CRC of a record, formed over LEN, KIND, TAG and payload (R174). -/
def crc (bytes : List Byte) : Word := bytes.foldl crcByte 0xFFFF

/-- The envelope of a record in either direction (10.2, 11.1). -/
def envelope (kind tag : Byte) (payload : List Byte) : List Byte :=
  let body := BitVec.ofNat 8 payload.length :: kind :: tag :: payload
  0xC3 :: (body ++ [(crc body).extractLsb' 8 8, (crc body).extractLsb' 0 8])

/-! ### One byte (R173) -/

/-- What the framer does with one byte. -/
inductive ByteStep where
  | keep (framer : Framer)
  | complete (bytes : List Byte)
  | fail (bytes : List RxByte)
  deriving DecidableEq, Repr

namespace Framer

def hunt (fr : Framer) : Framer := { fr with st := .hunt, buffer := [] }

/-- The LEN byte of the open candidate. -/
def len (fr : Framer) : Nat := (fr.buffer.getD 1 ⟨0, false⟩).data.toNat

def store (b : RxByte) (st : FramerState) (fr : Framer) : Framer :=
  { fr with st := st, buffer := fr.buffer ++ [b] }

/-- One byte taken by its state (R173). -/
def step (b : RxByte) (fr : Framer) : ByteStep :=
  match fr.st with
  | .hunt =>
    if b.data = 0xC3 ∧ b.framingError = false then .keep { fr with st := .len, buffer := [b] }
    else .keep fr
  | st =>
    if b.framingError then .fail (fr.buffer ++ [b])
    else
      match st with
      | .hunt => .keep fr
      | .len => if b.data.toNat ≤ 250 then .keep (fr.store b .kind) else .fail (fr.buffer ++ [b])
      | .kind => .keep (fr.store b .tag)
      | .tag => .keep (fr.store b (if 0 < fr.len then .payload else .crcHigh))
      | .payload =>
        .keep (fr.store b (if fr.len + 4 ≤ fr.buffer.length + 1 then .crcHigh else .payload))
      | .crcHigh => .keep (fr.store b .crcLow)
      | .crcLow => .complete ((fr.buffer ++ [b]).map (·.data))

end Framer

/-- The fields of a complete candidate, when its CRC is right (R174): KIND, TAG and payload. -/
def goodRecord (bytes : List Byte) : Option (Byte × Byte × List Byte) :=
  match bytes with
  | _ :: len :: kind :: tag :: rest =>
    let payload := rest.dropLast.dropLast
    let sum := rest.drop payload.length
    if sum = [(crc (len :: kind :: tag :: payload)).extractLsb' 8 8,
        (crc (len :: kind :: tag :: payload)).extractLsb' 0 8] then some (kind, tag, payload)
    else none
  | _ => none

namespace State

def withFramer (fr : Framer) (s : State) : State := s.withLink { s.link with framer := fr }

/-- The bytes taken in order, each by R173; a candidate that fails is counted and the bytes after its
sync byte are taken again before the others (R175). The first argument bounds the number of takings. -/
def feed : Nat → List RxByte → State → State
  | 0, _, s => s
  | _ + 1, [], s => s
  | n + 1, b :: rest, s =>
    match s.link.framer.step b with
    | .keep fr => feed n rest (s.withFramer fr)
    | .complete bytes =>
      match goodRecord bytes with
      | some (kind, tag, payload) =>
        feed n rest ((s.withFramer s.link.framer.hunt).takeRecord kind tag payload)
      | none =>
        feed n ((s.link.framer.buffer ++ [b]).drop 1 ++ rest)
          (s.withFramer s.link.framer.hunt).countLinkError
    | .fail bytes => feed n (bytes.drop 1 ++ rest) (s.withFramer s.link.framer.hunt).countLinkError

/-- Enough takings for `n` bytes: no byte is taken more often than once for each candidate whose sync
byte precedes it (R175). -/
def feedFuel (n : Nat) : Nat := (n + 1) * (n + 1)

/-- A byte received from the line at now (R173, R176). -/
def receiveByte (b : RxByte) (s : State) : State :=
  let fr := s.link.framer
  feed (feedFuel (fr.buffer.length + 1)) [b]
    (s.withFramer { fr with lastAt := s.now, startBit := false })

/-- The gap's rescan: the open candidate fails, is counted, and the bytes after its sync byte are taken
again, until no candidate is open (R176). -/
def closeGap : Nat → State → State
  | 0, s => s.withFramer s.link.framer.hunt
  | n + 1, s =>
    if s.link.framer.st = .hunt then s
    else
      let bytes := s.link.framer.buffer.drop 1
      closeGap n
        (feed (feedFuel bytes.length) bytes (s.withFramer s.link.framer.hunt).countLinkError)

/-- The gap expires (R176). -/
def expireGap (s : State) : State := s.closeGap (s.link.framer.buffer.length + 1)

end State

end Sys2Proof.Machine
end

