-- ==== Sys2Proof/Machine/Wire.lean ====
section
/-! DEFINITION. The bytes of host records in both directions (11.1, 11.2): the record that each request row
stands for, the records of the hub with their TAG and CRC, and the length of the record on the line. -/

namespace Sys2Proof.Machine

/-- A two-byte field, high byte first. -/
def bytesOf (w : Word) : List Byte := [w.extractLsb' 8 8, w.extractLsb' 0 8]

/-! ### Requests (11.1, 11.2) -/

def rampPayload (command : Byte) (q : RampRequest) : List Byte := [command, q.mask, q.rampIn, q.rampOut]

def clockPayload (q : ClockRequest) : List Byte :=
  [q.mask, q.source] ++ bytesOf q.frameLen ++ bytesOf q.presentPhase ++ bytesOf q.trimMax ++
    bytesOf q.lockWindow ++ [q.nLock, q.missLimit] ++ bytesOf q.holdoverMax

def channelPayload (q : ChannelRequest) : List Byte :=
  [q.channel, q.mask] ++ bytesOf q.leadMax ++ [q.staleLimit, q.stalePolicy, q.fadeFrames]

def routePayload (q : RouteRequest) : List Byte :=
  [q.route] ++ bytesOf q.mask ++ [q.sourceKind, q.sourceNumber, q.port, q.slot] ++ bytesOf q.gain ++
    bytesOf q.offset ++ bytesOf q.lo ++ bytesOf q.hi ++ bytesOf q.rest ++ bytesOf q.slew ++ [q.lead]

def portPayload (q : PortRequest) : List Byte :=
  [q.port] ++ bytesOf q.mask ++ [q.enable, q.essential, q.slots, q.width] ++ bytesOf q.beatPeriod ++
    [q.leadSlot, q.latencySource] ++ bytesOf q.fixedLatency ++ bytesOf q.guard ++
    [q.echoInterval, q.skipLimit]

def generatorPayload (q : GeneratorRequest) : List Byte :=
  [q.generator, q.mask, q.mode] ++ bytesOf q.period ++ bytesOf q.highTime ++ bytesOf q.levelA ++
    bytesOf q.levelB ++ [q.triggerLine]

def triggersPayload (q : TriggersRequest) : List Byte := bytesOf q.mask ++ q.types.toList

def resumePayload (q : ResumeRequest) : List Byte :=
  q.mask :: q.conditions.toList.flatMap (fun c => [c.1, c.2])

def postPayload (q : PostRequest) : List Byte :=
  [q.eventTag, q.kind, q.shape] ++ bytesOf q.amplitude ++
    [q.duration, q.destinations, q.slipLimit] ++ bytesOf q.frame

def samplesPayload (frame : Frame) (offset : Word) (pairs : List (Byte × Cue)) : List Byte :=
  bytesOf frame ++ bytesOf offset ++ BitVec.ofNat 8 pairs.length ::
    pairs.flatMap (fun x => x.1 :: bytesOf x.2)

/-- KIND, TAG and payload of the record whose completion a row stands for; none for a row that is no
record. SAMPLES and FRAME_MARK get no reply: their TAG is not used, and is 0 here. -/
def recordOf (i : Instr) : Option (Byte × Byte × List Byte) :=
  match i with
  | .cmdNone _ tag q => some (0x01, tag, rampPayload 0 q)
  | .setup _ tag q => some (0x01, tag, rampPayload 1 q)
  | .arm _ tag q => some (0x01, tag, rampPayload 2 q)
  | .go _ tag q => some (0x01, tag, rampPayload 3 q)
  | .pause _ tag q => some (0x01, tag, rampPayload 4 q)
  | .resume _ tag q => some (0x01, tag, rampPayload 5 q)
  | .halt _ tag q => some (0x01, tag, rampPayload 6 q)
  | .setClock _ tag q => some (0x02, tag, clockPayload q)
  | .setChannel _ tag q => some (0x03, tag, channelPayload q)
  | .setRoute _ tag q => some (0x04, tag, routePayload q)
  | .clearRoute _ tag route => some (0x05, tag, [route])
  | .getRoute _ tag route => some (0x06, tag, [route])
  | .setPort _ tag q => some (0x07, tag, portPayload q)
  | .getPort _ tag port => some (0x08, tag, [port])
  | .setGenerator _ tag q => some (0x09, tag, generatorPayload q)
  | .startGenerator _ tag g => some (0x0A, tag, [g])
  | .stopGenerator _ tag g => some (0x0B, tag, [g])
  | .setTriggers _ tag q => some (0x0C, tag, triggersPayload q)
  | .setResume _ tag q => some (0x0D, tag, resumePayload q)
  | .samples _ frame offset pairs => some (0x0E, 0, samplesPayload frame offset pairs)
  | .frameMark _ => some (0x0F, 0, [])
  | .eventPost _ tag q => some (0x10, tag, postPayload q)
  | .eventCancel _ tag eventTag => some (0x11, tag, [eventTag])
  | .readOutcomes _ tag count => some (0x12, tag, [count])
  | .stampNow _ tag => some (0x13, tag, [])
  | .readStamps _ tag count => some (0x14, tag, [count])
  | .getStatus _ tag => some (0x15, tag, [])
  | .unknownKind _ kind tag payload => some (kind, tag, payload)
  | _ => none

/-! ### Records of the hub (11.1, 11.2) -/

def Result.code : Result → Byte
  | .ok => 0x00
  | .wrongState => 0x01
  | .badValue => 0x02
  | .badConfig => 0x03
  | .notReady => 0x04
  | .slotTaken => 0x05
  | .noEntry => 0x06
  | .queueFull => 0x07
  | .tagInUse => 0x08
  | .tooLate => 0x09
  | .inProgress => 0x0A
  | .unknownKind => 0x0B
  | .badLength => 0x0C

def HubState.code : HubState → Byte
  | .setup => 0
  | .armed => 1
  | .rampIn => 2
  | .live => 3
  | .rampOut => 4
  | .paused => 5
  | .halted => 6

def ClockState.code : ClockState → Byte
  | .free => 0
  | .acquire => 1
  | .locked => 2
  | .holdover => 3

def Notice.kind : Notice → Byte
  | .state _ => 0x41
  | .clock _ => 0x42
  | .port _ => 0x43
  | .late _ => 0x44
  | .outcomes _ => 0x45
  | .stamps _ => 0x46

/-- The FRAME_START payload (11.2). -/
def FrameStartRecord.payload (r : FrameStartRecord) : List Byte :=
  bytesOf r.frame ++ [r.clock.code] ++ bytesOf (BitVec.ofInt 16 r.lastE) ++ [r.hub.code]

/-- The whole FRAME_START record: KIND 0x40, TAG 0 (R182). -/
def FrameStartRecord.bytes (r : FrameStartRecord) : List Byte := envelope 0x40 0 r.payload

def StampSource.code : StampSource → Byte
  | .cabLine n => BitVec.ofNat 8 n.val
  | .linkRequest => 0x10

def EdgeKind.code : EdgeKind → Byte
  | .rising => 1
  | .falling => 2
  | .request => 3

/-- The stamp record (11.2). -/
def Stamp.bytes (x : Stamp) : List Byte :=
  [x.source.code, x.edge.code ||| (if x.gap then 0x80 else 0)] ++ bytesOf x.frame ++
    bytesOf (BitVec.ofNat 16 x.offset)

/-- The payload of a reply, where the manual gives its layout (11.2, R180). -/
def Reply.payload (r : Reply) : Option (List Byte) :=
  match r.body with
  | .bare => some [r.result.code]
  | .badLength len => some [r.result.code, BitVec.ofNat 8 len]
  | .stamps records left gapPending =>
    some
      ([r.result.code, BitVec.ofNat 8 records.length, BitVec.ofNat 8 left,
        if gapPending then 1 else 0] ++ records.flatMap Stamp.bytes)
  | _ => none

/-- The record of a reply whose items after the result code are these bytes: its KIND, the request's TAG and
the CRC (R174, R180, 11.1). -/
def Reply.bytes (items : List Byte) (r : Reply) : List Byte :=
  envelope r.kind r.tag (r.result.code :: items)

/-- The record of a notice whose items after the merge count are these bytes: its KIND, TAG 0 and the CRC
(R174, R181, 11.1). -/
def Notice.bytes (merge : Nat) (items : List Byte) (n : Notice) : List Byte :=
  envelope n.kind 0 (BitVec.ofNat 8 merge :: items)

/-- The bytes of the record on the line. The manual gives no layout for the items of notices and of most
replies: `items` stands for theirs (log 8). -/
def Link.recordOnLine (items : List Byte) (l : Link) : Option (List Byte) :=
  match l.tx with
  | .idle => none
  | .frameStart r => some r.bytes
  | .reply => l.replies.head?.map (fun r => r.bytes (r.payload.elim items (List.drop 1)))
  | .notice n merge => some (n.bytes merge items)

/-- How many bytes the record on the line has, where the manual gives its layout (10.2, 11.2): LEN and 6. -/
def Link.lengthOnLine (l : Link) : Option Nat :=
  match l.tx with
  | .frameStart r => some (r.payload.length + 6)
  | .reply => l.replies.head?.bind (fun r => r.payload.map (fun p => p.length + 6))
  | .idle | .notice _ _ => none

end Sys2Proof.Machine
end

