-- ==== Sys2Proof/WellFormed.lean ====
section
/-! DEFINITION. The commands that a sender can make: a row's fields fit what the row names. -/

namespace Sys2Proof

/-- The largest time between two commands, in microseconds (log 1). -/
def maxDt : Nat := 2 ^ 31

/-- A KIND that names a request: 0x01 .. 0x15 (11.1). -/
def namesRequest (kind : Byte) : Bool := decide (1 ≤ kind.toNat ∧ kind.toNat ≤ 0x15)

/-- A kind word that names a report (11.4). -/
def namesReport (word : Word) : Bool := decide (1 ≤ word.toNat ∧ word.toNat ≤ 3)

/-- The words of a report before its sum word (11.4). -/
def reportBodyLength (word : Word) : Nat := if word.toNat = 1 then 4 else 2

/-- The microseconds since the command before, of a row that carries them. -/
def Instr.dt? : Instr → Option Nat
  | .powerOn _ _ => none
  | .reset dt => some dt
  | .frameStart => none
  | .fsync dt => some dt
  | .frameMark dt => some dt
  | .misses => none
  | .holdoverExpired => none
  | .setClock dt _ _ => some dt
  | .cmdNone dt _ _ => some dt
  | .setup dt _ _ => some dt
  | .arm dt _ _ => some dt
  | .go dt _ _ => some dt
  | .pause dt _ _ => some dt
  | .resume dt _ _ => some dt
  | .halt dt _ _ => some dt
  | .samples dt _ _ _ => some dt
  | .staleEntry _ => none
  | .setChannel dt _ _ => some dt
  | .setRoute dt _ _ => some dt
  | .clearRoute dt _ _ => some dt
  | .getRoute dt _ _ => some dt
  | .setGenerator dt _ _ => some dt
  | .startGenerator dt _ _ => some dt
  | .stopGenerator dt _ _ => some dt
  | .pulseEnd _ => none
  | .setPort dt _ _ => some dt
  | .getPort dt _ _ => some dt
  | .release _ => none
  | .skip _ => none
  | .partialEnd _ => none
  | .packetComplete _ => none
  | .waitAssert dt _ => some dt
  | .waitRelease dt _ => some dt
  | .abortAssert dt _ => some dt
  | .abortRelease dt _ => some dt
  | .echoInterval _ => none
  | .echoReply dt _ _ _ _ _ => some dt
  | .echoMissed _ => none
  | .presented dt _ _ _ => some dt
  | .input dt _ _ _ => some dt
  | .discardedKindWord dt _ _ => some dt
  | .setTriggers dt _ _ => some dt
  | .setResume dt _ _ => some dt
  | .stampNow dt _ => some dt
  | .readStamps dt _ _ => some dt
  | .eventPost dt _ _ => some dt
  | .destinationRelease _ _ => none
  | .missed _ _ => none
  | .eventCancel dt _ _ => some dt
  | .readOutcomes dt _ _ => some dt
  | .getStatus dt _ => some dt
  | .unknownKind dt _ _ _ => some dt
  | .candidateFails dt _ _ => some dt
  | .gap => none
  | .recordSent dt => some dt
  | .byteReceived dt _ _ => some dt
  | .reportBadSum dt _ _ _ _ => some dt
  | .payloadBeatEnd _ => none

/-- The row's fields beside its time fit what the row names. -/
def Instr.fieldsFit : Instr → Bool
  | .samples _ _ _ pairs => decide (1 ≤ pairs.length ∧ pairs.length ≤ 48)
  | .unknownKind _ kind _ payload => !namesRequest kind && decide (payload.length ≤ 250)
  | .discardedKindWord _ _ word => !namesReport word
  | .echoReply _ _ span _ _ _ => decide (span ≤ Config.reportSpanMax)
  | .presented _ _ span _ => decide (span ≤ Config.reportSpanMax)
  | .input _ p span _ => decide (span ≤ Config.reportSpanMax) && decide (p = .cab)
  | .reportBadSum _ _ span words sum =>
    decide (span ≤ Config.reportSpanMax) &&
      (match words with
        | [] => false
        | kind :: _ =>
          namesReport kind && decide (words.length = reportBodyLength kind) &&
            decide (words.foldl (· + ·) 0 ≠ sum))
  | .powerOn _ _ | .reset _ | .frameStart | .fsync _ | .frameMark _ | .misses | .holdoverExpired
  | .setClock _ _ _ | .cmdNone _ _ _ | .setup _ _ _ | .arm _ _ _ | .go _ _ _ | .pause _ _ _
  | .resume _ _ _ | .halt _ _ _ | .staleEntry _ | .setChannel _ _ _ | .setRoute _ _ _
  | .clearRoute _ _ _ | .getRoute _ _ _ | .setGenerator _ _ _ | .startGenerator _ _ _
  | .stopGenerator _ _ _ | .pulseEnd _ | .setPort _ _ _ | .getPort _ _ _ | .release _ | .skip _
  | .partialEnd _ | .packetComplete _ | .waitAssert _ _ | .waitRelease _ _ | .abortAssert _ _
  | .abortRelease _ _ | .echoInterval _ | .echoMissed _ | .setTriggers _ _ _ | .setResume _ _ _
  | .stampNow _ _ | .readStamps _ _ _ | .eventPost _ _ _ | .destinationRelease _ _ | .missed _ _
  | .eventCancel _ _ _ | .readOutcomes _ _ _ | .getStatus _ _ | .candidateFails _ _ _ | .gap
  | .recordSent _ | .byteReceived _ _ _ | .payloadBeatEnd _ => true

/-- The command is one that a sender can make. `exec` gives every command an effect, this one or not. -/
def Instr.wellFormed (i : Instr) : Bool := decide (i.dt?.getD 0 ≤ maxDt) && i.fieldsFit

end Sys2Proof
end

