-- ==== Sys2Proof/Machine/Own.lean ====
section
/-! DEFINITION. The hub's own events: when each one comes, what it does, and the passing of cue time, in
which the hub takes them in the order of their instants (logs 1, 2, 3, 6). -/

namespace Sys2Proof.Machine

/-- An event the hub makes by itself at an instant of its own. -/
inductive OwnEvent where
  | frameStart
  | beatEnd (port : Port)
  | complete (port : Port)
  | release (port : Port)
  | destinationRelease (tag : Byte) (port : Port)
  | partialEnd (port : Port)
  | missed (tag : Byte) (port : Port)
  | skip (port : Port)
  | gap
  | recordSent
  deriving DecidableEq, Repr

/-- The end of the next payload beat of the CUE or CONTINUE packet in flight (R99, R103). -/
def InFlight.nextBeatEnd (cfg : PortConfig) (fl : InFlight) : Option Instant :=
  if (fl.packet.kind = .cue ∨ fl.packet.kind = .continuation) ∧
      fl.delivered < fl.packet.values.length then
    some (fl.start + micro ((3 + fl.delivered / cfg.width) * cfg.beatPeriod))
  else none

/-- The end of the trailer beat of the packet in flight (R99, R103). -/
def InFlight.trailerEnd (cfg : PortConfig) (fl : InFlight) : Instant :=
  fl.start + micro (fl.packet.beatCount cfg.width * cfg.beatPeriod)

/-- The earliest of a list of instants; none of an empty list. -/
def earliestInstant : List Instant → Option Instant
  | [] => none
  | t :: ts => some (ts.foldl (fun best u => if past u best then u else best) t)

namespace BoardPort

/-- The release of N_b, while its packet is not due (R127). -/
def nextRelease (b : BoardPort) : Option Instant :=
  match b.sched with
  | some sc => if sc.due then none else some sc.release
  | none => none

/-- The earliest latest start of a waiting CONTINUE packet (R137). -/
def nextPartial (b : BoardPort) : Option Instant :=
  earliestInstant (b.conts.filterMap (·.latest))

end BoardPort

namespace Entry

def waitingRelease (p : Port) (e : Entry) : Option Instant :=
  if e.st = .active then
    e.dests.findSome?
      (fun d =>
        match d.state with
        | .waiting r _ => if d.port = p then some r else none
        | _ => none)
  else none

def dueLatest (p : Port) (e : Entry) : Option Instant :=
  if e.st = .active then
    e.dests.findSome?
      (fun d =>
        match d.state with
        | .due l => if d.port = p then some l else none
        | _ => none)
  else none

end Entry

namespace State

/-- The time of one byte, in whole microseconds (R172, log 14). -/
def byteTime (s : State) : Nat :=
  match s.link.rate with
  | .one => 10
  | .two => 5
  | .four => 3

/-- The time `n` bytes take back to back on the line, in whole microseconds (R172, log 14). -/
def sendTime (n : Nat) (s : State) : Nat :=
  match s.link.rate with
  | .one => 10 * n
  | .two => 5 * n
  | .four => ceilDiv (5 * n) 2

/-- The entry with this tag. -/
def entry (tag : Byte) (s : State) : Option Entry := s.queue.find? (fun e => e.tag = tag)

/-- The instant at which an own event comes, as the state now has it; none when it is not under way. -/
def instantOf (e : OwnEvent) (s : State) : Option Instant :=
  match e with
  | .frameStart => some s.clock.frameEnd
  | .beatEnd p => (s.port p).inFlight.bind (InFlight.nextBeatEnd (s.port p).cfg)
  | .complete p => (s.port p).inFlight.map (InFlight.trailerEnd (s.port p).cfg)
  | .release p => (s.port p).nextRelease
  | .destinationRelease tag p => (s.entry tag).bind (Entry.waitingRelease p)
  | .partialEnd p => (s.port p).nextPartial
  | .missed tag p => (s.entry tag).bind (Entry.dueLatest p)
  | .skip p => (s.port p).sched.map (·.latest)
  | .gap =>
    if s.link.framer.st ≠ .hunt ∧ s.link.framer.startBit = false then
      some (s.link.framer.lastAt + micro Config.gapMicroseconds)
    else none
  | .recordSent => s.link.lengthOnLine.map (fun n => s.link.txStart + micro (s.sendTime n))

/-! ### What each own event does, at now -/

/-- A payload beat of the packet in flight has ended (R103). -/
def endBeat (p : Port) (s : State) : State :=
  s.withPort p
    { s.port p with inFlight := (s.port p).inFlight.map (InFlight.addBeat (s.port p).cfg.width) }

/-- The trailer beat has ended: the owner is told and the line is free (R103, R108). -/
def endPacket (p : Port) (s : State) : State := ((s.completePacket p).finishLines).kick

/-- The CUE packet of N_b falls due (R127). -/
def reachRelease (p : Port) (s : State) : State :=
  match (s.port p).sched with
  | some sc =>
    ((s.withPort p { s.port p with sched := some { sc with due := true } }).finishLines).kick
  | none => s

/-- The release of one destination (R146). -/
def reachDestination (tag : Byte) (p : Port) (s : State) : State :=
  (((s.mapDest tag p (Destination.release s)).settle).finishLines).kick

/-- Waiting CONTINUE packets whose latest start is reached end PARTIAL (R137, R138). -/
def reachPartial (p : Port) (s : State) : State :=
  let b := s.port p
  let gone := b.conts.filter (fun k => reached (k.latest.getD s.now) s.now)
  let s :=
    s.withPort p
      { b with
        conts := b.conts.filter (fun k => !reached (k.latest.getD s.now) s.now)
        partialCount := countUp 65535 gone.length b.partialCount }
  (s.finishLines).kick

/-- The latest start of a DUE destination is reached (R147). -/
def reachMissed (tag : Byte) (p : Port) (s : State) : State :=
  ((s.mapDest tag p
    (fun d =>
      match d.state with
      | .due _ => { d with state := .missed }
      | _ => d)).settle).kick

/-- The latest start of N_b is reached with its packet unstarted (R129). -/
def reachSkip (p : Port) (s : State) : State :=
  match (s.port p).sched with
  | some sc => ((((s.skipOne p sc).skipPast p Config.frameFuel)).finishLines).kick
  | none => s

/-- The last byte of the record on the line has been sent (R179, R183): a reply leaves the queue, and the
arbiter chooses the next record. -/
def sentRecord (s : State) : State :=
  let l := s.link
  s.withLink
    (Link.arbitrate s.now { l with replies := if l.tx = .reply then l.replies.drop 1 else l.replies })

def takeOwn (e : OwnEvent) (s : State) : State :=
  match e with
  | .frameStart => s.frameStart
  | .beatEnd p => s.endBeat p
  | .complete p => s.endPacket p
  | .release p => s.reachRelease p
  | .destinationRelease tag p => s.reachDestination tag p
  | .partialEnd p => s.reachPartial p
  | .missed tag p => s.reachMissed tag p
  | .skip p => s.reachSkip p
  | .gap => s.expireGap.kick
  | .recordSent => s.sentRecord

/-! ### The passing of cue time -/

/-- The own events that may be under way, in the order taken among equal instants (log 6). -/
def ownEvents (s : State) : List OwnEvent :=
  .frameStart :: allPorts.map .beatEnd ++ allPorts.map .complete ++ allPorts.map .release ++
    s.queue.flatMap (fun e => allPorts.map (.destinationRelease e.tag)) ++
    allPorts.map .partialEnd ++
    s.queue.flatMap (fun e => allPorts.map (.missed e.tag)) ++
    allPorts.map .skip ++ [.gap, .recordSent]

/-- The first of the own events whose instants lie before `target`. -/
def nextOwn (target : Instant) (s : State) : Option (Instant × OwnEvent) :=
  let coming :=
    s.ownEvents.filterMap (fun e => (s.instantOf e).bind
      (fun t => if past t target then some (t, e) else none))
  match coming with
  | [] => none
  | x :: xs => some (xs.foldl (fun best y => if past y.1 best.1 then y else best) x)

/-- Cue time moves on to `t`, and never back. -/
def advanceTo (t : Instant) (s : State) : State :=
  if past s.now t then s.withClock { s.clock with cueTime := t } else s

/-- Cue time moves on to `target`, with the own events before it taken at their instants; the first
argument bounds their number (log 26). -/
def passTo (target : Instant) : Nat → State → State
  | 0, s => s.advanceTo target
  | n + 1, s =>
    match s.nextOwn target with
    | some (t, e) => passTo target n ((s.advanceTo t).takeOwn e)
    | none => s.advanceTo target

/-- The longest stretch of cue time passed at once, in microseconds: far inside the half range of R1. -/
def stretch : Nat := 1048576

def passFor (dt : Nat) (s : State) : State :=
  if dt = 0 then s else s.passTo (s.now + micro dt) (128 * (dt + 1))

/-- `dt` microseconds pass, with no start bit in them (log 1). -/
def pass (dt : Nat) (s : State) : State :=
  passFor (dt % stretch) (Nat.repeat (passFor stretch) (dt / stretch) s)

/-- A start bit has begun (R176). -/
def beginByte (s : State) : State := s.withFramer { s.link.framer with startBit := true }

/-- The start of the next byte on the line, in microseconds after the last command from outside, as the waiting
rows give it; `span` is the sum of the times that the rows before them name. The rows of the hub's own events,
RECORD_SENT among them, take no part in that sum. A row of a whole record and POWER_ON end the search
(log 13). -/
def nextStartBit (s : State) : Nat → List Instr → Option Int
  | _, [] => none
  | span, c :: rest =>
    match c with
    | .byteReceived dt _ _ | .candidateFails dt _ _ => some ((span + dt : Nat) - s.byteTime)
    | .powerOn _ _ => none
    | .recordSent _ => nextStartBit s span rest
    | c => if (recordOf c).isSome then none else nextStartBit s (span + c.dt?.getD 0) rest

/-- The gap is under way, and the start bit of the next byte begins before it expires or at that instant
(R176, log 13). -/
def byteInTime (span : Nat) (s : State) : Bool :=
  match s.instantOf .gap, s.nextStartBit span s.pending with
  | some g, some start => decide (start - s.ownTime ≤ diff g s.now)
  | _, _ => false

/-- Time is about to pass to `target`. A byte of the waiting rows whose start bit begins before the gap
expires, though the byte ends after `target`, keeps the gap from expiring (R176, log 13). -/
def foresee (target : Instant) (span : Nat) (s : State) : State :=
  match s.instantOf .gap with
  | some g => if past g target && s.byteInTime span then s.beginByte else s
  | none => s

/-- Time passes until `dt` microseconds after the last command from outside; when the rows of own events have
taken longer, none passes. `span` is the time from which the waiting rows count theirs (log 1). -/
def waitFor (span dt : Nat) (s : State) : State :=
  let left := dt - s.ownTime
  if left = 0 then s else (s.foresee (s.now + micro (min left stretch)) span).pass left

/-- Time passes to the instant of a command from outside, `dt` microseconds after the last one (log 1). While
RESET is asserted the hub does nothing (log 10). -/
def elapse (dt : Nat) (s : State) : State :=
  if s.inReset then s else (s.waitFor dt dt).withOwnTime 0

/-- Time passes to the instant of a row of an own event that names it, `dt` microseconds after the last command
from outside, from which the next one still counts (log 1). -/
def elapseOwn (dt : Nat) (s : State) : State :=
  if s.inReset then s else (s.waitFor 0 dt).withOwnTime (max s.ownTime dt)

/-- An own event is under way and its instant has been reached. -/
def isDueNow (e : OwnEvent) (s : State) : Bool :=
  match s.instantOf e with
  | some t => reached t s.now
  | none => false

/-- Cue time moves on to the instant of `e`, as the state comes to have it, with the own events before it
taken at their instants, but for a gap that a start bit keeps from expiring; the second argument bounds their
number (logs 13, 26). -/
def approach (startBit : Bool) (e : OwnEvent) : Nat → State → State
  | 0, s => s
  | n + 1, s =>
    match s.instantOf e with
    | none => s
    | some t =>
      match s.nextOwn t with
      | some (t', e') =>
        let s := s.advanceTo t'
        approach startBit e n (if e' = .gap ∧ startBit then s.beginByte else s.takeOwn e')
      | none => s.advanceTo t

/-- The state in which the own event `e` comes next; the time to it is counted (log 1). -/
def before (e : OwnEvent) (s : State) : State :=
  let t := s.approach (s.byteInTime 0) e stretch
  t.withOwnTime (s.ownTime + (t.now - s.now).toNat)

/-- The row of an own event: time passes to its instant, then it is taken. Without such an event under way
nothing happens (log 2). -/
def ownRow (e : OwnEvent) (s : State) : State :=
  if s.inReset then s
  else if (s.before e).isDueNow e then (s.before e).takeOwn e
  else s.before e

/-- The row of a frame start that brings something: time passes to the frame end, and the frame start is
taken if it brings it. Otherwise nothing happens (log 3). -/
def frameRow (brings : State → Bool) (s : State) : State :=
  if s.inReset then s
  else if (s.before .frameStart).isDueNow .frameStart && brings (s.before .frameStart) then
    (s.before .frameStart).frameStart
  else s

/-! ### Bytes from the line (R172, R176) -/

/-- Time passes to the end of a byte, `dt` microseconds after the last command from outside: its start bit
begins one byte time before the end (log 13). -/
def elapseByte (dt : Nat) (s : State) : State :=
  let left := dt - s.ownTime
  (((s.pass (left - s.byteTime)).beginByte).pass (min left s.byteTime)).withOwnTime 0

/-- A byte received `dt` microseconds after the last command from outside (R173). -/
def byteFromLine (dt : Nat) (b : RxByte) (s : State) : State :=
  if s.inReset then s else ((s.elapseByte dt).receiveByte b).kick

end State

/-! ### Commands from outside -/

/-- A command that acts `dt` microseconds after the last one from outside. While RESET is asserted the hub takes
none (log 10). -/
def outside (dt : Nat) (act : State → State) (s : State) : State :=
  if s.inReset then s else act (s.elapse dt)

/-- A good record completes: the framer is in HUNT again (R173, log 12). -/
def State.closeRecord (s : State) : State := s.withFramer s.link.framer.hunt

/-- A good request record completes and its owner takes it (R178). -/
def request (dt : Nat) (kind tag : Byte) (owner : State → Answer) (s : State) : State :=
  outside dt (fun s => answer kind tag owner s.closeRecord) s

end Sys2Proof.Machine
end

