-- ==== Sys2Proof/Machine/CabCommands.lean ====
section
/-! DEFINITION. The meanings of INPUT, SET_TRIGGERS, SET_RESUME, STAMP_NOW and READ_STAMPS (R159 to R170). -/

namespace Sys2Proof.Machine

/-- INPUT (R118, R160). -/
def execInput (dt : Nat) (port : Port) (span : Nat) (lines : Word) (s : State) :
    Host.Outcome State Fault Refusal :=
  .next (outside dt (State.takeSummed port span [3, lines]) s)

/-- SET_TRIGGERS (R159). -/
def execSetTriggers (dt : Nat) (tag : Byte) (q : TriggersRequest) (s : State) :
    Host.Outcome State Fault Refusal :=
  .next (request dt 0x0C tag (State.ownSetTriggers q) s)

/-- SET_RESUME (R168). -/
def execSetResume (dt : Nat) (tag : Byte) (q : ResumeRequest) (s : State) :
    Host.Outcome State Fault Refusal :=
  .next (request dt 0x0D tag (State.ownSetResume q) s)

/-- STAMP_NOW (R165). -/
def execStampNow (dt : Nat) (tag : Byte) (s : State) : Host.Outcome State Fault Refusal :=
  .next (request dt 0x13 tag State.ownStampNow s)

/-- READ_STAMPS (R166). -/
def execReadStamps (dt : Nat) (tag count : Byte) (s : State) : Host.Outcome State Fault Refusal :=
  .next (request dt 0x14 tag (State.ownReadStamps count) s)

end Sys2Proof.Machine
end

