-- ==== Sys2Proof/Machine/ChannelCommands.lean ====
section
/-! DEFINITION. The meanings of SAMPLES, STALE_ENTRY and SET_CHANNEL (R40 to R52). -/

namespace Sys2Proof.Machine

/-- A SAMPLES record with its pairs, one of a pair count out of range discarded (R40, R178). -/
def State.takeSamplesRecord (frame : Frame) (offset : Word) (pairs : List (Byte × Cue)) (s : State) :
    State :=
  if pairCountFits pairs.length then s.takeSamples frame offset pairs else s.countLinkError

/-- SAMPLES (R40). -/
def execSamples (dt : Nat) (frame : Frame) (offset : Word) (pairs : List (Byte × Cue)) (s : State) :
    Host.Outcome State Fault Refusal :=
  .next (outside dt (fun s => s.closeRecord.takeSamplesRecord frame offset pairs) s)

/-- STALE_ENTRY (R47). -/
def execStaleEntry (channel : Fin 48) (s : State) : Host.Outcome State Fault Refusal :=
  .next (s.frameRow (fun s => (s.channels[channel]).goesStale s.now s.clock.set.frameLen))

/-- SET_CHANNEL (R51). -/
def execSetChannel (dt : Nat) (tag : Byte) (q : ChannelRequest) (s : State) :
    Host.Outcome State Fault Refusal :=
  .next (request dt 0x03 tag (State.ownSetChannel q) s)

end Sys2Proof.Machine
end

