-- ==== Sys2Proof/Machine/ClockCommands.lean ====
section
/-! DEFINITION. The meanings of the cue clock's commands: FRAME_START, FSYNC, FRAME_MARK, MISSES,
HOLDOVER_EXPIRED and SET_CLOCK (R2, R5 to R15). -/

namespace Sys2Proof.Machine

namespace Clock

/-- A frame start now would bring the miss count to MISS_LIMIT (R14). -/
def missesReached (c : Clock) : Bool :=
  c.st = .locked && !c.captured && decide (c.set.missLimit ≤ c.missCount + 1)

/-- A frame start now would bring the holdover count to HOLDOVER_MAX (R15). -/
def holdoverReached (c : Clock) : Bool :=
  c.st = .holdover && decide (c.set.holdoverMax ≤ c.holdoverCount + 1)

end Clock

/-- FRAME_START (R2). -/
def execFrameStart (s : State) : Host.Outcome State Fault Refusal := .next (s.ownRow .frameStart)

/-- FSYNC (R7). -/
def execFsync (dt : Nat) (s : State) : Host.Outcome State Fault Refusal :=
  .next (outside dt (State.edgeFrom .fsync) s)

/-- FRAME_MARK (R7). -/
def execFrameMark (dt : Nat) (s : State) : Host.Outcome State Fault Refusal :=
  .next (outside dt (fun s => s.closeRecord.edgeFrom .frameMark) s)

/-- MISSES (R14). -/
def execMisses (s : State) : Host.Outcome State Fault Refusal :=
  .next (s.frameRow (fun s => s.clock.missesReached))

/-- HOLDOVER_EXPIRED (R15). -/
def execHoldoverExpired (s : State) : Host.Outcome State Fault Refusal :=
  .next (s.frameRow (fun s => s.clock.holdoverReached))

/-- SET_CLOCK (R5). -/
def execSetClock (dt : Nat) (tag : Byte) (q : ClockRequest) (s : State) :
    Host.Outcome State Fault Refusal :=
  .next (request dt 0x02 tag (State.ownSetClock q) s)

end Sys2Proof.Machine
end

