-- ==== Sys2Proof/Machine/DeliveryCommands.lean ====
section
/-! DEFINITION. The meanings of RELEASE, SKIP and PARTIAL (R127, R129, R137). -/

namespace Sys2Proof.Machine

/-- RELEASE (R127). -/
def execRelease (port : Port) (s : State) : Host.Outcome State Fault Refusal :=
  .next (s.ownRow (.release port))

/-- SKIP (R129). -/
def execSkip (port : Port) (s : State) : Host.Outcome State Fault Refusal :=
  .next (s.ownRow (.skip port))

/-- PARTIAL (R137). -/
def execPartialEnd (port : Port) (s : State) : Host.Outcome State Fault Refusal :=
  .next (s.ownRow (.partialEnd port))

end Sys2Proof.Machine
end

