-- ==== Sys2Proof/Machine/EventCommands.lean ====
section
/-! DEFINITION. The meanings of the coupled event queue's commands (R142 to R147, R153, R156). -/

namespace Sys2Proof.Machine

/-- EVENT_POST (R142). -/
def execEventPost (dt : Nat) (tag : Byte) (q : PostRequest) (s : State) :
    Host.Outcome State Fault Refusal :=
  .next (request dt 0x10 tag (State.ownEventPost q) s)

/-- DESTINATION_RELEASE (R146). -/
def execDestinationRelease (eventTag : Byte) (port : Port) (s : State) :
    Host.Outcome State Fault Refusal :=
  .next (s.ownRow (.destinationRelease eventTag port))

/-- MISSED (R147). -/
def execMissed (eventTag : Byte) (port : Port) (s : State) : Host.Outcome State Fault Refusal :=
  .next (s.ownRow (.missed eventTag port))

/-- EVENT_CANCEL (R153). -/
def execEventCancel (dt : Nat) (tag eventTag : Byte) (s : State) :
    Host.Outcome State Fault Refusal :=
  .next (request dt 0x11 tag (State.ownEventCancel eventTag) s)

/-- READ_OUTCOMES (R156). -/
def execReadOutcomes (dt : Nat) (tag count : Byte) (s : State) : Host.Outcome State Fault Refusal :=
  .next (request dt 0x12 tag (State.ownReadOutcomes count) s)

end Sys2Proof.Machine
end

