-- ==== Sys2Proof/Machine/GeneratorCommands.lean ====
section
/-! DEFINITION. The meanings of SET_GENERATOR, START_GENERATOR, STOP_GENERATOR and PULSE_END (R81, R87,
R90, R91). -/

namespace Sys2Proof.Machine

/-- SET_GENERATOR (R81). -/
def execSetGenerator (dt : Nat) (tag : Byte) (q : GeneratorRequest) (s : State) :
    Host.Outcome State Fault Refusal :=
  .next (request dt 0x09 tag (State.ownSetGenerator q) s)

/-- START_GENERATOR (R87). -/
def execStartGenerator (dt : Nat) (tag generator : Byte) (s : State) :
    Host.Outcome State Fault Refusal :=
  .next (request dt 0x0A tag (State.ownStartGenerator generator) s)

/-- STOP_GENERATOR (R91). -/
def execStopGenerator (dt : Nat) (tag generator : Byte) (s : State) :
    Host.Outcome State Fault Refusal :=
  .next (request dt 0x0B tag (State.ownStopGenerator generator) s)

/-- PULSE_END (R90). -/
def execPulseEnd (generator : Fin 4) (s : State) : Host.Outcome State Fault Refusal :=
  .next
    (s.frameRow
      (fun s => (s.gens[generator]).pulseEnds (s.now + micro s.clock.set.presentPhase)))

end Sys2Proof.Machine
end

