-- ==== Sys2Proof/Machine/HubCommands.lean ====
section
/-! DEFINITION. The meanings of the seven HUB_COMMAND rows (R20 to R28). -/

namespace Sys2Proof.Machine

/-- NONE (R20). -/
def execCmdNone (dt : Nat) (tag : Byte) (q : RampRequest) (s : State) :
    Host.Outcome State Fault Refusal :=
  .next (request dt 0x01 tag (State.commandNone q) s)

/-- SETUP (R21). -/
def execSetup (dt : Nat) (tag : Byte) (q : RampRequest) (s : State) :
    Host.Outcome State Fault Refusal :=
  .next (request dt 0x01 tag (State.commandSetup q) s)

/-- ARM (R23). -/
def execArm (dt : Nat) (tag : Byte) (q : RampRequest) (s : State) :
    Host.Outcome State Fault Refusal :=
  .next (request dt 0x01 tag (State.commandArm q) s)

/-- GO (R25). -/
def execGo (dt : Nat) (tag : Byte) (q : RampRequest) (s : State) :
    Host.Outcome State Fault Refusal :=
  .next (request dt 0x01 tag (State.commandGo q) s)

/-- PAUSE (R26). -/
def execPause (dt : Nat) (tag : Byte) (q : RampRequest) (s : State) :
    Host.Outcome State Fault Refusal :=
  .next (request dt 0x01 tag (State.commandPause q) s)

/-- RESUME (R27). -/
def execResume (dt : Nat) (tag : Byte) (q : RampRequest) (s : State) :
    Host.Outcome State Fault Refusal :=
  .next (request dt 0x01 tag (State.commandResume q) s)

/-- HALT (R28). -/
def execHalt (dt : Nat) (tag : Byte) (q : RampRequest) (s : State) :
    Host.Outcome State Fault Refusal :=
  .next (request dt 0x01 tag (State.commandHalt q) s)

end Sys2Proof.Machine
end

