-- ==== Sys2Proof/Machine/LinkCommands.lean ====
section
/-! DEFINITION. The meanings of the host link's commands: GET_STATUS, UNKNOWN_KIND, CANDIDATE_FAILS, GAP,
RECORD_SENT and BYTE_RECEIVED (R173 to R184). -/

namespace Sys2Proof.Machine

/-- RECORD_SENT for a record whose length the manual does not give: its last byte has been sent (log 8). A
record of a length given ends by itself. -/
def State.sentUnstated (s : State) : State :=
  if s.link.tx ≠ .idle ∧ s.link.lengthOnLine = none then s.sentRecord else s

/-- GET_STATUS (R184). -/
def execGetStatus (dt : Nat) (tag : Byte) (s : State) : Host.Outcome State Fault Refusal :=
  .next (request dt 0x15 tag State.ownGetStatus s)

/-- UNKNOWN_KIND: a good record of this KIND, TAG and payload is taken as what it is (R178, log 27). -/
def execUnknownKind (dt : Nat) (kind tag : Byte) (payload : List Byte) (s : State) :
    Host.Outcome State Fault Refusal :=
  .next (outside dt (fun s => s.closeRecord.takeRecord kind tag payload) s)

/-- CANDIDATE_FAILS: the byte that makes the open candidate fail (R175, log 27). -/
def execCandidateFails (dt : Nat) (data : Byte) (framingError : Bool) (s : State) :
    Host.Outcome State Fault Refusal :=
  .next (s.byteFromLine dt ⟨data, framingError⟩)

/-- GAP (R176). -/
def execGap (s : State) : Host.Outcome State Fault Refusal := .next (s.ownRow .gap)

/-- RECORD_SENT (R183): the end of the record on the line, at its own instant where its length is given, `dt`
microseconds after the last command from outside where it is not (logs 1, 8). -/
def execRecordSent (dt : Nat) (s : State) : Host.Outcome State Fault Refusal :=
  .next
    (if s.inReset then s
    else if s.link.lengthOnLine = none then (s.elapseOwn dt).sentUnstated
    else s.ownRow .recordSent)

/-- BYTE_RECEIVED (R173). -/
def execByteReceived (dt : Nat) (data : Byte) (framingError : Bool) (s : State) :
    Host.Outcome State Fault Refusal :=
  .next (s.byteFromLine dt ⟨data, framingError⟩)

end Sys2Proof.Machine
end

