-- ==== Sys2Proof/Machine/PortCommands.lean ====
section
/-! DEFINITION. The meanings of the board ports' commands: configuration, the lines WAIT and ABORT, beats
and trailers, echoes and reports (R97 to R118, R187). -/

namespace Sys2Proof.Machine

namespace State

/-- The board drives WAIT (R104). -/
def setWait (p : Port) (level : Bool) (s : State) : State :=
  s.withPort p { s.port p with wait := level }

/-- The board drives ABORT (R105). -/
def setAbort (p : Port) (level : Bool) (s : State) : State :=
  s.withPort p { s.port p with abort := level }

/-- WAIT is released: the arbiter decides (R104, R108). -/
def releaseWait (p : Port) (s : State) : State := ((s.setWait p false).finishLines).kick

/-- ABORT is asserted: the packet in flight is interrupted (R105, R106). -/
def raiseAbort (p : Port) (s : State) : State :=
  ((((s.setAbort p true).interrupt p).finishLines)).kick

/-- ABORT is released: the arbiter decides (R106, R108). -/
def releaseAbort (p : Port) (s : State) : State := ((s.setAbort p false).finishLines).kick

end State

/-- SET_PORT (R97). -/
def execSetPort (dt : Nat) (tag : Byte) (q : PortRequest) (s : State) :
    Host.Outcome State Fault Refusal :=
  .next (request dt 0x07 tag (State.ownSetPort q) s)

/-- GET_PORT (R98). -/
def execGetPort (dt : Nat) (tag port : Byte) (s : State) : Host.Outcome State Fault Refusal :=
  .next (request dt 0x08 tag (State.ownGetPort port) s)

/-- PACKET_COMPLETE (R103). -/
def execPacketComplete (port : Port) (s : State) : Host.Outcome State Fault Refusal :=
  .next (s.ownRow (.complete port))

/-- PAYLOAD_BEAT_END (R103). -/
def execPayloadBeatEnd (port : Port) (s : State) : Host.Outcome State Fault Refusal :=
  .next (s.ownRow (.beatEnd port))

/-- WAIT_ASSERT (R104). A board drives its lines in RESET too (log 10). -/
def execWaitAssert (dt : Nat) (port : Port) (s : State) : Host.Outcome State Fault Refusal :=
  .next ((s.elapse dt).setWait port true)

/-- WAIT_RELEASE (R104). -/
def execWaitRelease (dt : Nat) (port : Port) (s : State) : Host.Outcome State Fault Refusal :=
  .next (if s.inReset then s.setWait port false else (s.elapse dt).releaseWait port)

/-- ABORT_ASSERT (R105). -/
def execAbortAssert (dt : Nat) (port : Port) (s : State) : Host.Outcome State Fault Refusal :=
  .next (if s.inReset then s.setAbort port true else (s.elapse dt).raiseAbort port)

/-- ABORT_RELEASE (R106). -/
def execAbortRelease (dt : Nat) (port : Port) (s : State) : Host.Outcome State Fault Refusal :=
  .next (if s.inReset then s.setAbort port false else (s.elapse dt).releaseAbort port)

/-- ECHO_INTERVAL (R110). -/
def execEchoInterval (port : Port) (s : State) : Host.Outcome State Fault Refusal :=
  .next (s.frameRow (fun s => (s.port port).echoIntervalDue))

/-- ECHO_MISSED (R113). -/
def execEchoMissed (port : Port) (s : State) : Host.Outcome State Fault Refusal :=
  .next (s.frameRow (fun s => (s.port port).echoIsMissed))

/-- ECHO_REPLY (R112). -/
def execEchoReply (dt : Nat) (port : Port) (span : Nat) (number delay turnaround : Word) (s : State) :
    Host.Outcome State Fault Refusal :=
  .next (outside dt (State.takeSummed port span [1, number, delay, turnaround]) s)

/-- PRESENTED (R117). -/
def execPresented (dt : Nat) (port : Port) (span : Nat) (frame : Frame) (s : State) :
    Host.Outcome State Fault Refusal :=
  .next (outside dt (State.takeSummed port span [2, frame]) s)

/-- DISCARDED_KIND_WORD (R187). -/
def execDiscardedKindWord (dt : Nat) (port : Port) (word : Word) (s : State) :
    Host.Outcome State Fault Refusal :=
  .next (outside dt (fun s => s.takeWord port s.now word) s)

/-- REPORT_BAD_SUM (R116). -/
def execReportBadSum (dt : Nat) (port : Port) (span : Nat) (words : List Word) (sum : Word)
    (s : State) : Host.Outcome State Fault Refusal :=
  .next (outside dt (State.takeWords port span (words ++ [sum])) s)

end Sys2Proof.Machine
end

