-- ==== Sys2Proof/Machine/PowerCommands.lean ====
section
/-! DEFINITION. The meanings of POWER_ON and RESET (R39, R172, R185). -/

namespace Sys2Proof.Machine

/-- The line rate that the straps select (R172). -/
def rateOf (spd1 spd0 : Bool) : LineRate :=
  match spd1, spd0 with
  | false, false => .one
  | false, true => .two
  | true, false => .four
  | true, true => .one

/-- A port at its reset values, with the levels that its board drives kept (R95, R104). -/
def BoardPort.keepLevels (old new : BoardPort) : BoardPort :=
  { new with wait := old.wait, abort := old.abort }

namespace State

/-- Every block at its reset values, the link at the strapped rate (R39). The boards' levels, the choices
and the waiting commands are not the hub's to reset (log 11). -/
def powerUp (rate : LineRate) (s : State) : State :=
  { State.reset with
    ports :=
      ⟨s.ports.vision.keepLevels Reset.ports.vision, s.ports.sound.keepLevels Reset.ports.sound,
        s.ports.cab.keepLevels Reset.ports.cab⟩
    link := { Reset.link with rate := rate }
    choices := s.choices
    pending := s.pending }

/-- The RESET line is asserted: packets and the record on the link are cut, and a partly received record
is lost (R39, R185). -/
def assertReset (s : State) : State :=
  let s := ((s.cut .vision).cut .sound).cut .cab
  { s.withLink { s.link with framer := s.link.framer.hunt, tx := .idle } with inReset := true }

end State

/-- POWER_ON (R39). -/
def execPowerOn (spd1 spd0 : Bool) (s : State) : Host.Outcome State Fault Refusal :=
  .next (s.powerUp (rateOf spd1 spd0))

/-- RESET (R185). -/
def execReset (dt : Nat) (s : State) : Host.Outcome State Fault Refusal :=
  .next (outside dt State.assertReset s)

end Sys2Proof.Machine
end

