-- ==== Sys2Proof/Machine/RouteCommands.lean ====
section
/-! DEFINITION. The meanings of SET_ROUTE, CLEAR_ROUTE and GET_ROUTE (R57 to R63). -/

namespace Sys2Proof.Machine

/-- SET_ROUTE (R57). -/
def execSetRoute (dt : Nat) (tag : Byte) (q : RouteRequest) (s : State) :
    Host.Outcome State Fault Refusal :=
  .next (request dt 0x04 tag (State.ownSetRoute q) s)

/-- CLEAR_ROUTE (R62). -/
def execClearRoute (dt : Nat) (tag route : Byte) (s : State) : Host.Outcome State Fault Refusal :=
  .next (request dt 0x05 tag (State.ownClearRoute route) s)

/-- GET_ROUTE (R63). -/
def execGetRoute (dt : Nat) (tag route : Byte) (s : State) : Host.Outcome State Fault Refusal :=
  .next (request dt 0x06 tag (State.ownGetRoute route) s)

end Sys2Proof.Machine
end

