-- ==== Sys2Proof/Machine/Dispatch.lean ====
section
/-! DEFINITION. One arm for each command of the table. -/

namespace Sys2Proof.Machine

def exec (i : Instr) (s : State) : Host.Outcome State Fault Refusal :=
  match i with
  | .powerOn spd1 spd0 => Sys2Proof.Machine.execPowerOn spd1 spd0 s
  | .reset dt => Sys2Proof.Machine.execReset dt s
  | .frameStart => Sys2Proof.Machine.execFrameStart s
  | .fsync dt => Sys2Proof.Machine.execFsync dt s
  | .frameMark dt => Sys2Proof.Machine.execFrameMark dt s
  | .misses => Sys2Proof.Machine.execMisses s
  | .holdoverExpired => Sys2Proof.Machine.execHoldoverExpired s
  | .setClock dt tag q => Sys2Proof.Machine.execSetClock dt tag q s
  | .cmdNone dt tag q => Sys2Proof.Machine.execCmdNone dt tag q s
  | .setup dt tag q => Sys2Proof.Machine.execSetup dt tag q s
  | .arm dt tag q => Sys2Proof.Machine.execArm dt tag q s
  | .go dt tag q => Sys2Proof.Machine.execGo dt tag q s
  | .pause dt tag q => Sys2Proof.Machine.execPause dt tag q s
  | .resume dt tag q => Sys2Proof.Machine.execResume dt tag q s
  | .halt dt tag q => Sys2Proof.Machine.execHalt dt tag q s
  | .samples dt frame offset pairs => Sys2Proof.Machine.execSamples dt frame offset pairs s
  | .staleEntry channel => Sys2Proof.Machine.execStaleEntry channel s
  | .setChannel dt tag q => Sys2Proof.Machine.execSetChannel dt tag q s
  | .setRoute dt tag q => Sys2Proof.Machine.execSetRoute dt tag q s
  | .clearRoute dt tag route => Sys2Proof.Machine.execClearRoute dt tag route s
  | .getRoute dt tag route => Sys2Proof.Machine.execGetRoute dt tag route s
  | .setGenerator dt tag q => Sys2Proof.Machine.execSetGenerator dt tag q s
  | .startGenerator dt tag generator => Sys2Proof.Machine.execStartGenerator dt tag generator s
  | .stopGenerator dt tag generator => Sys2Proof.Machine.execStopGenerator dt tag generator s
  | .pulseEnd generator => Sys2Proof.Machine.execPulseEnd generator s
  | .setPort dt tag q => Sys2Proof.Machine.execSetPort dt tag q s
  | .getPort dt tag port => Sys2Proof.Machine.execGetPort dt tag port s
  | .release port => Sys2Proof.Machine.execRelease port s
  | .skip port => Sys2Proof.Machine.execSkip port s
  | .partialEnd port => Sys2Proof.Machine.execPartialEnd port s
  | .packetComplete port => Sys2Proof.Machine.execPacketComplete port s
  | .waitAssert dt port => Sys2Proof.Machine.execWaitAssert dt port s
  | .waitRelease dt port => Sys2Proof.Machine.execWaitRelease dt port s
  | .abortAssert dt port => Sys2Proof.Machine.execAbortAssert dt port s
  | .abortRelease dt port => Sys2Proof.Machine.execAbortRelease dt port s
  | .echoInterval port => Sys2Proof.Machine.execEchoInterval port s
  | .echoReply dt port span number delay turnaround => Sys2Proof.Machine.execEchoReply dt port span number delay turnaround s
  | .echoMissed port => Sys2Proof.Machine.execEchoMissed port s
  | .presented dt port span frame => Sys2Proof.Machine.execPresented dt port span frame s
  | .input dt port span lines => Sys2Proof.Machine.execInput dt port span lines s
  | .discardedKindWord dt port word => Sys2Proof.Machine.execDiscardedKindWord dt port word s
  | .setTriggers dt tag q => Sys2Proof.Machine.execSetTriggers dt tag q s
  | .setResume dt tag q => Sys2Proof.Machine.execSetResume dt tag q s
  | .stampNow dt tag => Sys2Proof.Machine.execStampNow dt tag s
  | .readStamps dt tag count => Sys2Proof.Machine.execReadStamps dt tag count s
  | .eventPost dt tag q => Sys2Proof.Machine.execEventPost dt tag q s
  | .destinationRelease eventTag port => Sys2Proof.Machine.execDestinationRelease eventTag port s
  | .missed eventTag port => Sys2Proof.Machine.execMissed eventTag port s
  | .eventCancel dt tag eventTag => Sys2Proof.Machine.execEventCancel dt tag eventTag s
  | .readOutcomes dt tag count => Sys2Proof.Machine.execReadOutcomes dt tag count s
  | .getStatus dt tag => Sys2Proof.Machine.execGetStatus dt tag s
  | .unknownKind dt kind tag payload => Sys2Proof.Machine.execUnknownKind dt kind tag payload s
  | .candidateFails dt data framingError => Sys2Proof.Machine.execCandidateFails dt data framingError s
  | .gap => Sys2Proof.Machine.execGap s
  | .recordSent dt => Sys2Proof.Machine.execRecordSent dt s
  | .byteReceived dt data framingError => Sys2Proof.Machine.execByteReceived dt data framingError s
  | .reportBadSum dt port span words sum => Sys2Proof.Machine.execReportBadSum dt port span words sum s
  | .payloadBeatEnd port => Sys2Proof.Machine.execPayloadBeatEnd port s

end Sys2Proof.Machine
end

