-- ==== Sys2Proof/Machine/Step.lean ====
section
/-! DEFINITION. One step: the command at the front of the queue, or one microsecond of idling. -/

namespace Sys2Proof.Machine

/-- One microsecond passes with no command (log 4). -/
def State.idle (s : State) : State := s.elapse (s.ownTime + 1)

/-- The step: the front command is taken with the queue's rest waiting. -/
def step (s : State) : Host.Outcome State Fault Refusal :=
  match s.pending with
  | [] => .next s.idle
  | c :: rest => exec c { s with pending := rest }

/-- No row of the table has bits, so no word spells a command and the state is as it was (log 23). -/
def State.withFetchWord (s : State) (_nbits _w : Nat) : State := s

end Sys2Proof.Machine
end

