-- ==== Sys2Proof/Safety.lean ====
section
/-! DEFINITION. The invariants of the hub: what the manual says of every state between two events. Each is
a decidable property of plain data. -/

namespace Sys2Proof.Machine

/-- f by hub state: within 0 .. 256, 256 in LIVE, and 0 in SETUP, ARMED, PAUSED and HALTED (R29). -/
def Controller.rampFits (c : Controller) : Prop :=
  match c.st with
  | .live => c.f = 256
  | .setup | .armed | .paused | .halted => c.f = 0
  | .rampIn | .rampOut => c.f ≤ 256

/-- The halt reason is there exactly in HALTED (R22, R24, R34). -/
abbrev Controller.reasonFits (c : Controller) : Prop := c.reason = .none ↔ c.st ≠ .halted

/-- In RAMP_IN, LIVE, RAMP_OUT and PAUSED the clock is LOCKED or HOLDOVER (R35); in SETUP it is FREE, and
outside SETUP it is not (R11). -/
def State.clockFits (s : State) : Prop :=
  match s.ctrl.st with
  | .setup => s.clock.st = .free
  | .armed | .halted => s.clock.st ≠ .free
  | .rampIn | .live | .rampOut | .paused => s.clock.st = .locked ∨ s.clock.st = .holdover

/-- The ring holds 1 to 32 entries, the newest that of the current frame (R3). -/
abbrev Clock.ringFits (c : Clock) : Prop :=
  (c.ring.head?).map (·.frame) = some c.current ∧ c.ring.length ≤ Config.ringSize

/-- The clock settings lie in their ranges (R5). -/
abbrev Clock.settingsFit (c : Clock) : Prop := c.set.inRange = true

/-- The stores of fixed size hold no more than they can: replies, events, stamps (R179, R140, R164). -/
abbrev State.storesFit (s : State) : Prop :=
  s.link.replies.length ≤ Config.replyQueueSize ∧ s.queue.length ≤ Config.eventQueueSize ∧
    s.cab.fifo.length ≤ Config.stampFifoSize

/-- No two entries of the event queue carry the same tag (R140). -/
abbrev State.tagsFit (s : State) : Prop := (s.queue.map (·.tag)).Nodup

/-- An entry is ACTIVE exactly while a destination is PENDING (R140, R151). -/
abbrev Entry.stateFits (e : Entry) : Prop := e.st = .active ↔ e.dests.any Destination.pending = true

/-- No two routes in use name the same port and slot (R56). -/
abbrev State.claimsFit (s : State) : Prop :=
  ∀ i j : Fin 64, i ≠ j → (s.routes[i]).sameClaim s.routes[j] = false

/-- A port in OFF sends nothing and holds nothing to send (R22, R96). -/
abbrev BoardPort.quietWhenOff (b : BoardPort) : Prop :=
  b.st = .off →
    b.inFlight = none ∧ b.conts = [] ∧ b.neutral = none ∧ b.echoDue = none ∧ b.sched = none ∧
      b.echo.outstanding = none ∧ b.window = []

/-- A scheduler is ACTIVE exactly while its port is RUNNING and the hub is in ARMED, RAMP_IN, LIVE, RAMP_OUT
or PAUSED (R126). -/
def State.schedulersFit (s : State) : Prop :=
  ∀ p, ((s.port p).sched ≠ none ↔ (s.port p).st = .running ∧ s.deliversCues = true)

/-- In SETUP every port is OFF (R22). -/
def State.setupQuiet (s : State) : Prop := s.ctrl.st = .setup → ∀ p, (s.port p).st = .off

/-- A destination of an ACTIVE entry is DUE or IN_FLIGHT only on a RUNNING port (R146, R150), and in SETUP
the queue is empty (R158). -/
def State.destinationsFit (s : State) : Prop :=
  (s.ctrl.st = .setup → s.queue = []) ∧
    ∀ e ∈ s.queue, e.st = .active → ∀ d ∈ e.dests,
      match d.state with
      | .due _ | .inFlight _ => (s.port d.port).st = .running
      | .waiting _ _ | .sent | .missed | .dropped => True

/-- The ports, the hub state and the destinations agree. -/
structure State.portsFit (s : State) : Prop where
  setup : s.setupQuiet
  quiet : ∀ p, (s.port p).quietWhenOff
  schedulers : s.schedulersFit
  destinations : s.destinationsFit

/-- The whole of what holds between two events. -/
structure State.Inv (s : State) : Prop where
  ramp : s.ctrl.rampFits
  reason : s.ctrl.reasonFits
  clock : s.clockFits
  ring : s.clock.ringFits
  settings : s.clock.settingsFit
  stores : s.storesFit
  tags : s.tagsFit
  entries : ∀ e ∈ s.queue, e.stateFits
  claims : s.claimsFit
  ports : s.portsFit

/-! ### Terms of the statements -/

/-- The state in which a record that completes `dt` microseconds after the last command from outside is
taken. -/
def State.taken (dt : Nat) (s : State) : State := (s.elapse dt).closeRecord

/-- A request that completes `dt` microseconds after the last command from outside finds RESET not asserted and room for its reply (R178). -/
abbrev State.canAnswer (dt : Nat) (s : State) : Prop :=
  s.inReset = false ∧ (s.elapse dt).link.replies.length < Config.replyQueueSize

/-- The state in which a reply of these items has joined the reply queue. -/
def State.replied (kind tag : Byte) (result : Result) (body : ReplyBody) (s : State) : State :=
  s.pushReply ⟨kind, tag, result, body⟩

/-- The state in which a HUB_COMMAND reply, with the items as they stand, has joined the queue (R20). -/
def State.hubReplied (tag : Byte) (result : Result) (detail : HubDetail) (s : State) : State :=
  s.replied 0x81 tag result
    (.hub s.ctrl.st s.ctrl.f s.ctrl.reason s.ctrl.rampIn s.ctrl.rampOut detail)

/-- The state with its cue time at `t`, the time to it counted as that of a row of an own event (log 1). -/
def State.atInstant (t : Instant) (s : State) : State :=
  (s.withClock { s.clock with cueTime := t }).withOwnTime (s.ownTime + (t - s.now).toNat)

/-- The own event `e` comes next, at the instant `t`, which lies at or after now. -/
abbrev State.comes (e : OwnEvent) (t : Instant) (s : State) : Prop :=
  s.inReset = false ∧ s.instantOf e = some t ∧ s.nextOwn t = none ∧ 0 ≤ diff t s.now

/-- The frame end of the frame in progress comes next. -/
abbrev State.frameEndComes (s : State) : Prop := s.comes .frameStart s.clock.frameEnd

/-- No port is lost at the frame start that comes next, and the clock is not in HOLDOVER: the controller takes
nothing but its ramp step there. -/
abbrev State.plainFrame (s : State) : Prop :=
  (∀ p, (s.port p).goesLost = false) ∧ s.clock.st ≠ .holdover

/-- No word received in the last `span` microseconds came before the port's entry to PROBING (R187). -/
abbrev BoardPort.openFor (span : Nat) (now : Instant) (b : BoardPort) : Prop :=
  b.openedAt.all (fun t => decide (span ≤ (now - t).toNat)) = true

/-- The port's line is taken, or its board holds it off (R103, R104, R105). -/
abbrev BoardPort.heldOff (b : BoardPort) : Prop := b.inFlight ≠ none ∨ b.wait = true ∨ b.abort = true

/-- The start of the frame `f` as a frame start at `start` that begins frame `current` predicts it (R4). -/
def predictedStart (start : Instant) (current f : Frame) (frameLen : Nat) : Instant :=
  start + BitVec.ofNat 32 ((f - current).toNat * frameLen)

/-- The quotient rounded to the nearest integer, halves away from zero (00, Conventions). -/
def nearest (a : Int) (b : Nat) : Int := a.sign * (((2 * a.natAbs + b) / (2 * b) : Nat) : Int)

/-- The value saturated to 16 bits. -/
def held16 (x : Int) : Int := max (-32768) (min 32767 x)

/-- The PORT notice of a change of port `p`, with the ports' states as `t` has them (R119). -/
def portChange (t : State) (p : Port) (new left : PortState) (cause : PortCause)
    (lineDelay declared : Nat) : PortNotice :=
  ⟨p, new, left, cause, t.clock.current, lineDelay, declared, (t.port .vision).st, (t.port .sound).st,
    (t.port .cab).st⟩

/-- A notice as its slot holds it once it has been placed over `old` (R181). -/
def placedOver {α : Type} (old : Option (Held α)) (content : α) : Option (Held α) :=
  some ⟨content, match old with | none => 0 | some h => min 255 (h.merge + 1)⟩

end Sys2Proof.Machine
end

