-- ==== Sys2Proof/Certificates/Slice0/Obligations.lean ====
section
/-! DEFINITION. The statements for the provers. Each docstring names what it formalises. -/

open Sys2Proof Sys2Proof.Machine

/-! ### The step, the queue and the records -/

/-- Step: the front command acts on the hub with the queue's rest; on an empty queue one microsecond of
cue time passes (the model's own choice, log 4), after the time that rows of own events have taken since the
last command from outside (log 1). -/
def Obligations.StepTakesFrontCommand : Prop :=
  (∀ (c : Instr) (rest : List Instr) (s : State),
    step { s with pending := c :: rest } = exec c { s with pending := rest }) ∧
  ∀ s : State, s.pending = [] → step s = .next (s.elapse (s.ownTime + 1))

/-- Every command of the table ends in a next state, and leaves the waiting commands alone; the RESET line
stays as it was but for POWER_ON and RESET. (That no command stops is log 29, DEDUCED; what a row does whose
event is not under way is logs 2 and 3, the model's own.) -/
def Obligations.EveryCommandCompletes : Prop :=
  ∀ (c : Instr) (s : State), ∃ t, exec c s = .next t ∧ t.pending = s.pending ∧
    ((∀ a b, c ≠ .powerOn a b) → (∀ dt, c ≠ .reset dt) → t.inReset = s.inReset)

/-- Each row of a host record acts as the record of its bytes does: the payload layouts of chapter 11 read
back what they write, every operand of every request at every value. (That such a row leaves the framer in
HUNT is log 12, the model's own.) -/
def Obligations.RowsActAsTheirRecords : Prop :=
  ∀ (c : Instr) (s : State) (dt : Nat) (kind tag : Byte) (payload : List Byte),
    c.wellFormed = true → recordOf c = some (kind, tag, payload) → c.dt? = some dt →
      exec c s = .next (outside dt (fun u => u.closeRecord.takeRecord kind tag payload) s)

/-- A record received whole from HUNT is taken once, as what it is, with the framer back in HUNT: the
envelope, the CRC and the framer's states agree, for every KIND, TAG and payload. The records the hub sends
pass the same check: FRAME_START and notices with TAG 0, a notice's payload from its merge count on, a reply
with the TAG it holds and its payload from its result code on. -/
def Obligations.EnvelopeIsReceivedWhole : Prop :=
  (∀ (kind tag : Byte) (payload : List Byte) (s : State) (n : Nat),
     payload.length ≤ 250 → s.link.framer.st = .hunt → payload.length + 6 ≤ n →
       State.feed n ((envelope kind tag payload).map (fun b => ⟨b, false⟩)) s =
         s.closeRecord.takeRecord kind tag payload) ∧
  (∀ r : FrameStartRecord, goodRecord r.bytes = some (0x40, 0, r.payload)) ∧
  (∀ (n : Notice) (merge : Nat) (items : List Byte),
     goodRecord (n.bytes merge items) = some (n.kind, 0, BitVec.ofNat 8 merge :: items)) ∧
  ∀ (r : Reply) (items : List Byte),
    goodRecord (r.bytes items) = some (r.kind, r.tag, r.result.code :: items)

/-- With 8 replies in the queue a request that needs a reply is not carried out: only the overrun count
moves, stopping at 65535 (and the framer is in HUNT after the record). -/
def Obligations.FullReplyQueueRefusesRequests : Prop :=
  ∀ (c : Instr) (s : State) (dt : Nat) (kind tag : Byte) (payload : List Byte),
    recordOf c = some (kind, tag, payload) → kind ≠ 0x0E → kind ≠ 0x0F → c.dt? = some dt →
      s.inReset = false → 8 ≤ (s.elapse dt).link.replies.length →
        exec c s =
          .next
            ((s.taken dt).withLink
              { (s.taken dt).link with overruns := min 65535 ((s.taken dt).link.overruns + 1) })

/-! ### The cue clock -/

/-- FRAME_START: at the frame end the next frame begins there. It takes the next number, or 0 when renumber
pending is yes (which becomes no); captured becomes no and the trim 0; the frame end becomes the start plus
FRAME_LEN; the ring takes the entry, the oldest of 32 leaving first, or is emptied before frame 0. The
settings and last e stay. Outside SETUP a busy transmitter finds the FRAME_START of the new frame in its
slot, whatever the slot held, with the hub state before or after the frame start's own steps. (The choice
in force is used up: log 5, the model's own.)

The frame start that renumbers: a PENDING destination whose packet is not in flight is DROPPED, and one in
flight runs on; a scheduler takes N_b anew as the first frame from 0 on whose release lies after the frame
start, with no CUE packet due and no skip counted, and a packet in flight runs on.

Any other frame start: on a line that is taken or held off N_b keeps its number and takes its instants anew
from the predicted presentation instant, its packet staying due or falling due when the release is past; a
WAITING destination whose release lies ahead and a DUE one that never started take their instants anew, and
one that has started keeps its latest start. (Stated where no port is lost, the clock is not in
HOLDOVER and the hub not in RAMP_OUT, so that no packet is cut.) -/
def Obligations.FrameStartBeginsTheNextFrame : Prop :=
  (∀ s : State, s.frameEndComes →
    ∃ t, exec .frameStart s = .next t ∧
      t.clock.cueTime = s.clock.frameEnd ∧
      t.clock.current = (if s.clock.renumber then 0 else s.clock.current + 1) ∧
      t.clock.ring =
        (if s.clock.renumber then [⟨0, s.clock.frameEnd⟩]
          else (⟨s.clock.current + 1, s.clock.frameEnd⟩ :: s.clock.ring).take 32) ∧
      t.clock.captured = false ∧ t.clock.trim = 0 ∧ t.clock.renumber = false ∧
      t.clock.frameEnd = s.clock.frameEnd + BitVec.ofNat 32 s.clock.set.frameLen ∧
      t.clock.set = s.clock.set ∧ t.clock.lastE = s.clock.lastE ∧
      t.discards = s.discards ∧ t.choices = s.choices.tail ∧
      (s.ctrl.st ≠ .setup → s.link.tx ≠ .idle →
        t.link.frameStart.map (fun r => (r.frame, r.clock, r.lastE)) =
          some (t.clock.current, t.clock.st, s.clock.lastE) ∧
        (s.plainFrame → ∀ r, t.link.frameStart = some r → r.hub = s.ctrl.st ∨ r.hub = t.ctrl.st))) ∧
  (∀ s : State, s.frameEndComes → s.clock.renumber = true →
    ∃ t, exec .frameStart s = .next t ∧
      (∀ e ∈ s.queue, e.st = .active →
        ∃ e' ∈ t.queue, e'.tag = e.tag ∧ e'.frame = e.frame ∧ ∀ d ∈ e.dests,
          ((∃ r l, d.state = .waiting r l) ∨ (∃ l, d.state = .due l) →
            ∃ d' ∈ e'.dests, d'.port = d.port ∧ d'.state = .dropped) ∧
          (s.plainFrame → s.ctrl.st ≠ .rampOut → ∀ l, d.state = .inFlight l →
            ∃ d' ∈ e'.dests, d'.port = d.port ∧ d'.state = .inFlight l)) ∧
      (s.plainFrame → s.ctrl.st ≠ .rampOut → s.clock.settingsFit → ∀ p sc, (s.port p).sched = some sc →
        let b := s.port p
        b.latCue ≤ 60000 → b.cfg.guard ≤ 2000 →
          let latest (n : Nat) : Instant :=
            s.clock.frameEnd + BitVec.ofNat 32 (n * s.clock.set.frameLen) +
              BitVec.ofNat 32 s.clock.set.presentPhase - BitVec.ofNat 32 b.latCue
          let release (n : Nat) : Instant := latest n - BitVec.ofNat 32 b.cfg.guard
          (∃ n, (t.port p).sched = some ⟨BitVec.ofNat 16 n, release n, latest n, false⟩ ∧
            reached (release n) s.clock.frameEnd = false ∧
            ∀ j < n, reached (release j) s.clock.frameEnd = true) ∧
          (t.port p).skipCount = b.skipCount ∧
          (b.inFlight ≠ none → (t.port p).inFlight = b.inFlight))) ∧
  ∀ s : State, s.frameEndComes → s.clock.renumber = false → s.plainFrame → s.ctrl.st ≠ .rampOut →
    let now := s.clock.frameEnd
    let presentation (f : Frame) : Instant :=
      predictedStart now (s.clock.current + 1) f s.clock.set.frameLen +
        BitVec.ofNat 32 s.clock.set.presentPhase
    let ahead (f : Frame) : Prop := (f - (s.clock.current + 1)).toNat ≤ 32767
    ∃ t, exec .frameStart s = .next t ∧
      (∀ p sc, (s.port p).sched = some sc → ahead sc.next → (s.port p).heldOff →
        let latest := presentation sc.next - BitVec.ofNat 32 (s.port p).latCue
        let release := latest - BitVec.ofNat 32 (s.port p).cfg.guard
        past latest now = false →
          (t.port p).sched = some ⟨sc.next, release, latest, sc.due || past release now⟩) ∧
      (∀ e ∈ s.queue, e.st = .active → ahead e.frame →
        ∃ e' ∈ t.queue, e'.tag = e.tag ∧ e'.frame = e.frame ∧ ∀ d ∈ e.dests,
          let b := s.port d.port
          let latest := presentation e.frame - BitVec.ofNat 32 b.latEvent
          let release := latest - BitVec.ofNat 32 b.cfg.guard
          let becomes (state : DestState) : Prop := ∃ d' ∈ e'.dests, d'.port = d.port ∧ d'.state = state
          (∀ r l, d.state = .waiting r l → reached release now = false →
            becomes (.waiting release latest)) ∧
          (∀ l, d.state = .due l → d.starts = 0 → b.heldOff → past latest now = false →
            becomes (.due latest)) ∧
          (∀ l, d.state = .due l → d.starts ≠ 0 → b.heldOff → past l now = false → becomes (.due l)))

/-- The rows MISSES and HOLDOVER_EXPIRED. A frame without a capture in LOCKED that brings the miss count to
MISS_LIMIT moves the clock to HOLDOVER with good count and holdover count 0. A frame start in HOLDOVER that
brings the holdover count to HOLDOVER_MAX moves the clock to ACQUIRE with good count 0, and a hub in RAMP_IN,
LIVE, RAMP_OUT or PAUSED, where no port is lost in the same frame start, is then HALTED with reason CLOCK_LOST
and f 0; one in ARMED or HALTED is not. (The rows are named by log 3, the model's own. That the miss count
stays as it is on the way to HOLDOVER is log 24, DEDUCED.) -/
def Obligations.FrameStartLeavesLockedOrHoldover : Prop :=
  ∀ s : State, s.frameEndComes →
    (s.clock.st = .locked → s.clock.captured = false → s.clock.missCount < 15 →
      s.clock.set.missLimit ≤ s.clock.missCount + 1 →
        ∃ t, exec .misses s = .next t ∧ t.clock.st = .holdover ∧ t.clock.goodCount = 0 ∧
          t.clock.holdoverCount = 0 ∧ t.clock.missCount = s.clock.missCount + 1 ∧
          t.clock.cueTime = s.clock.frameEnd ∧
          (s.link.tx ≠ .idle →
            t.link.slots.clock =
              placedOver s.link.slots.clock
                ⟨.holdover, .locked, t.clock.current, s.clock.lastE, .misses⟩)) ∧
    (s.clock.st = .holdover → s.clock.holdoverCount < 1000 →
      s.clock.set.holdoverMax ≤ s.clock.holdoverCount + 1 →
        ∃ t, exec .holdoverExpired s = .next t ∧ t.clock.st = .acquire ∧ t.clock.goodCount = 0 ∧
          t.clock.renumber = false ∧ t.clock.cueTime = s.clock.frameEnd ∧
          ((∀ p, (s.port p).goesLost = false) →
            s.ctrl.st = .rampIn ∨ s.ctrl.st = .live ∨ s.ctrl.st = .rampOut ∨ s.ctrl.st = .paused →
            t.ctrl.st = .halted ∧ t.ctrl.reason = .clockLost ∧ t.ctrl.f = 0) ∧
          (s.ctrl.st = .armed ∨ s.ctrl.st = .halted → t.ctrl = s.ctrl))

/-- The ramp step of a frame start: in RAMP_IN f rises by ceiling(256 / ramp_in) to at most 256 and the hub
goes to LIVE there; in RAMP_OUT f falls by ceiling(256 / ramp_out) to at least 0 and the hub enters PAUSED
there; a ramp length of 0 reaches the end at once. Stated where no port is lost in the same frame start and
the clock is LOCKED. -/
def Obligations.FrameStartStepsTheRamp : Prop :=
  ∀ s : State, s.frameEndComes → s.clock.st = .locked → (∀ p, (s.port p).goesLost = false) →
    ∃ t, exec .frameStart s = .next t ∧ t.ctrl.reason = s.ctrl.reason ∧
      t.ctrl.rampIn = s.ctrl.rampIn ∧ t.ctrl.rampOut = s.ctrl.rampOut ∧
      (s.ctrl.st = .rampIn →
        let f := if s.ctrl.rampIn = 0 then 256 else min 256 (s.ctrl.f + (256 + s.ctrl.rampIn - 1) / s.ctrl.rampIn)
        t.ctrl.f = f ∧ t.ctrl.st = if f = 256 then .live else .rampIn) ∧
      (s.ctrl.st = .rampOut →
        let f := if s.ctrl.rampOut = 0 then 0 else s.ctrl.f - (256 + s.ctrl.rampOut - 1) / s.ctrl.rampOut
        t.ctrl.f = f ∧ t.ctrl.st = if f = 0 then .paused else .rampOut) ∧
      (s.ctrl.st ≠ .rampIn → s.ctrl.st ≠ .rampOut → t.ctrl.f = s.ctrl.f ∧ t.ctrl.st = s.ctrl.st)

/-- The folded phase e is the phase, or the phase less FRAME_LEN, whichever lies in
-FRAME_LEN/2 .. FRAME_LEN/2, the lower bound reached and the upper one not. The rows FSYNC and FRAME_MARK
when their source is the one followed, in a frame that has not captured and has not ended: the edge is the
frame's capture. One that does not jump writes captured, last e and the trim, and moves counts and state by
the tables of ACQUIRE, LOCKED and HOLDOVER; the frame goes on to its new end, or ends at the capture when that
end has been reached, and its frame start then counts once more in HOLDOVER. (The counts that stay as they are
on LOCK and on the way to HOLDOVER are log 24, DEDUCED.) -/
def Obligations.CaptureTrimsTheFrame : Prop :=
  (∀ c : Clock, c.phase < c.set.frameLen →
     -(c.set.frameLen : Int) ≤ 2 * c.folded ∧ 2 * c.folded < c.set.frameLen ∧
       (c.folded = c.phase ∨ c.folded = (c.phase : Int) - c.set.frameLen)) ∧
  ∀ (dt : Nat) (s u : State) (c : Instr), s.inReset = false →
    ((c = .fsync dt ∧ u = s.elapse dt ∧ u.clock.set.source = .fsync) ∨
      (c = .frameMark dt ∧ u = s.taken dt ∧ u.clock.set.source = .frameMark)) →
    u.frameEnded = false → u.clock.st ≠ .free → u.clock.captured = false →
    ¬(u.clock.st = .acquire ∧ (u.clock.set.lockWindow : Int) < |u.clock.folded|) →
      let e := u.clock.folded
      let good : Bool := decide (|e| ≤ (u.clock.set.lockWindow : Int))
      let trim := max (-(u.clock.set.trimMax : Int)) (min u.clock.set.trimMax e)
      let newEnd := u.clock.start + BitVec.ofInt 32 (u.clock.set.frameLen + trim)
      let goodCount := min 31 (u.clock.goodCount + 1)
      let relock := u.clock.st ≠ .locked ∧ good = true ∧ u.clock.set.nLock ≤ goodCount
      let newSt : ClockState :=
        if relock then .locked
        else if u.clock.st = .locked ∧ good = false then .holdover
        else u.clock.st
      let newGood :=
        if u.clock.st = .locked then (if good then u.clock.goodCount else 0)
        else if good then goodCount else 0
      let newMiss := if relock ∨ (u.clock.st = .locked ∧ good = true) then 0 else u.clock.missCount
      let newHoldover :=
        if u.clock.st = .locked ∧ good = false then 0 else u.clock.holdoverCount
      ∃ t, exec c s = .next t ∧ t.clock.lastE = e ∧
        (reached newEnd u.now = false →
          t = (u.withClock
                { u.clock with
                  captured := true
                  lastE := e
                  trim := trim
                  frameEnd := newEnd
                  st := newSt
                  goodCount := newGood
                  missCount := newMiss
                  holdoverCount := newHoldover }).withLink
              t.link) ∧
        (reached newEnd u.now = true →
          t.clock.current = u.clock.nextFrame ∧ t.clock.start = u.now ∧ t.clock.captured = false ∧
            t.clock.trim = 0 ∧ t.clock.missCount = newMiss ∧
            (newSt ≠ .holdover →
              t.clock.st = newSt ∧ t.clock.goodCount = newGood ∧
                t.clock.holdoverCount = newHoldover) ∧
            (newSt = .holdover →
              let count := min 1000 (newHoldover + 1)
              t.clock.holdoverCount = count ∧
                if u.clock.set.holdoverMax ≤ count then t.clock.st = .acquire ∧ t.clock.goodCount = 0
                else t.clock.st = .holdover ∧ t.clock.goodCount = newGood))

/-- A bad capture in ACQUIRE jumps: the frame ends at the capture and the next one begins there, with its
capture still to come, good count 0 and the clock still in ACQUIRE. An edge of the source not followed, in
FREE, or in a frame that has captured changes nothing. -/
def Obligations.BadCaptureInAcquireJumps : Prop :=
  ∀ (dt : Nat) (s u : State) (c : Instr) (source : ClockSource), s.inReset = false →
    ((c = .fsync dt ∧ u = s.elapse dt ∧ source = .fsync) ∨
      (c = .frameMark dt ∧ u = s.taken dt ∧ source = .frameMark)) →
    u.frameEnded = false →
      (u.clock.set.source = source → u.clock.st = .acquire → u.clock.captured = false →
        (u.clock.set.lockWindow : Int) < |u.clock.folded| →
          ∃ t, exec c s = .next t ∧ t.clock.st = .acquire ∧ t.clock.goodCount = 0 ∧
            t.clock.lastE = u.clock.folded ∧ t.clock.captured = false ∧ t.clock.trim = 0 ∧
            t.clock.current = u.clock.nextFrame ∧ t.clock.start = u.now ∧
            t.clock.frameEnd = u.now + BitVec.ofNat 32 u.clock.set.frameLen ∧
            t.clock.renumber = false) ∧
      (u.clock.set.source ≠ source ∨ u.clock.st = .free ∨ u.clock.captured = true →
        exec c s = .next u)

/-- SET_CLOCK by the three steps of R5: outside SETUP a mask that names source, FRAME_LEN or PRESENT_PHASE
is refused with WRONG_STATE; a merged record with a field out of range is refused with BAD_VALUE; otherwise
it replaces the held one. A refusal leaves the hub as it was and returns the record held. The change of a
live setting touches nothing else. -/
def Obligations.SetClockUpdatesTheSettings : Prop :=
  ∀ (dt : Nat) (tag : Byte) (q : ClockRequest) (s : State), s.canAnswer dt →
    let u := s.taken dt
    let held := u.clock.set
    let refused (r : Result) : State := u.replied 0x82 tag r (.clock held)
    let fixedNamed := q.mask.getLsbD 0 = true ∨ q.mask.getLsbD 1 = true ∨ q.mask.getLsbD 2 = true
    let source := if q.mask.getLsbD 0 then clockSourceOf q.source else some held.source
    let m : ClockSettings :=
      { source := source.getD held.source
        frameLen := if q.mask.getLsbD 1 then q.frameLen.toNat else held.frameLen
        presentPhase := if q.mask.getLsbD 2 then q.presentPhase.toNat else held.presentPhase
        trimMax := if q.mask.getLsbD 3 then q.trimMax.toNat else held.trimMax
        lockWindow := if q.mask.getLsbD 4 then q.lockWindow.toNat else held.lockWindow
        nLock := if q.mask.getLsbD 5 then q.nLock.toNat else held.nLock
        missLimit := if q.mask.getLsbD 6 then q.missLimit.toNat else held.missLimit
        holdoverMax := if q.mask.getLsbD 7 then q.holdoverMax.toNat else held.holdoverMax }
    let inRange :=
      source ≠ none ∧ 1000 ≤ m.frameLen ∧ m.frameLen ≤ 20000 ∧ m.presentPhase < m.frameLen ∧
        1 ≤ m.trimMax ∧ m.trimMax ≤ 255 ∧ 1 ≤ m.lockWindow ∧ m.lockWindow ≤ 1000 ∧ 1 ≤ m.nLock ∧
        m.nLock ≤ 31 ∧ 1 ≤ m.missLimit ∧ m.missLimit ≤ 15 ∧ 1 ≤ m.holdoverMax ∧ m.holdoverMax ≤ 1000
    (u.ctrl.st ≠ .setup → fixedNamed →
      exec (.setClock dt tag q) s = .next (refused .wrongState)) ∧
    (u.ctrl.st = .setup ∨ ¬fixedNamed → ¬inRange →
      exec (.setClock dt tag q) s = .next (refused .badValue)) ∧
    (u.ctrl.st = .setup ∨ ¬fixedNamed → inRange → m.frameLen = held.frameLen →
      exec (.setClock dt tag q) s =
        .next ((u.withClock { u.clock with set := m }).replied 0x82 tag .ok (.clock m))) ∧
    (u.ctrl.st = .setup → inRange → m.frameLen ≠ held.frameLen →
      let newEnd := u.clock.start + BitVec.ofNat 32 m.frameLen
      ∃ t, exec (.setClock dt tag q) s = .next t ∧ t.clock.set = m ∧
        t.link.replies = u.link.replies ++ [⟨0x82, tag, .ok, .clock m⟩] ∧
        (reached newEnd u.now = false →
          t.clock = { u.clock with set := m, trim := 0, frameEnd := newEnd }) ∧
        (reached newEnd u.now = true →
          t.clock.current = u.clock.nextFrame ∧ t.clock.start = u.now))

/-! ### The hub controller -/

/-- HUB_COMMAND NONE is accepted in every hub state, writes the ramp fields its mask names, and does nothing
else. The hub states that do not accept another command refuse it with WRONG_STATE: the reply carries the
items as they stand, the ramp fields are not taken, and nothing else changes. Any of the seven commands with a
mask bit beyond the two fields is refused with BAD_VALUE, before the hub state is looked at. -/
def Obligations.HubCommandsAreChecked : Prop :=
  (∀ (dt : Nat) (tag : Byte) (q : RampRequest) (s : State), s.canAnswer dt →
     let u := s.taken dt
     exec (.cmdNone dt tag q) s =
       .next
         (if q.mask.toNat < 4 then
           (u.withCtrl
             { u.ctrl with
               rampIn := if q.mask.getLsbD 0 then q.rampIn.toNat else u.ctrl.rampIn
               rampOut := if q.mask.getLsbD 1 then q.rampOut.toNat else u.ctrl.rampOut }).hubReplied
             tag .ok .none
         else u.hubReplied tag .badValue .none)) ∧
  ∀ (dt : Nat) (tag : Byte) (q : RampRequest) (s : State), s.canAnswer dt →
    let u := s.taken dt
    let wrong := Host.Outcome.next (φ := Fault) (ρ := Refusal) (u.hubReplied tag .wrongState .none)
    (q.mask.toNat < 4 →
      (u.ctrl.st = .rampIn ∨ u.ctrl.st = .live ∨ u.ctrl.st = .rampOut →
        exec (.setup dt tag q) s = wrong) ∧
      (u.ctrl.st ≠ .setup → exec (.arm dt tag q) s = wrong) ∧
      (u.ctrl.st ≠ .armed → exec (.go dt tag q) s = wrong) ∧
      (u.ctrl.st ≠ .rampIn → u.ctrl.st ≠ .live → exec (.pause dt tag q) s = wrong) ∧
      (u.ctrl.st ≠ .paused → u.ctrl.st ≠ .rampOut → exec (.resume dt tag q) s = wrong) ∧
      (u.ctrl.st = .setup → exec (.halt dt tag q) s = wrong)) ∧
    (4 ≤ q.mask.toNat →
      ∀ c ∈ [Instr.setup dt tag q, .arm dt tag q, .go dt tag q, .pause dt tag q, .resume dt tag q,
        .halt dt tag q], exec c s = .next (u.hubReplied tag .badValue .none))

/-- SETUP from ARMED, PAUSED and HALTED: SETUP entry. The controller is in SETUP with f 0 and reason NONE;
the clock is FREE with its counts at 0 and no renumbering pending; every channel is EMPTY, every last its
rest value, every generator IDLE without a trigger, the event queue and the stamp FIFO empty, the previous
word 0; every port is OFF with nothing in flight or waiting. Settings, configurations, the frame in progress
and the ring are kept. On a busy transmitter a SETUP_ENTRY notice of the last port to leave another state
stands in the PORT slot. In SETUP the command changes nothing but the ramp fields it names (log 30). (That the
notice is the last port's, in the order VISION, SOUND, CAB, and that its delays are 0 are logs 31 and 37, the
model's own.) -/
def Obligations.SetupEntryClearsDynamicState : Prop :=
  ∀ (dt : Nat) (tag : Byte) (q : RampRequest) (s : State), s.canAnswer dt → q.mask.toNat < 4 →
    let u := s.taken dt
    let rampIn := if q.mask.getLsbD 0 then q.rampIn.toNat else u.ctrl.rampIn
    let rampOut := if q.mask.getLsbD 1 then q.rampOut.toNat else u.ctrl.rampOut
    (u.ctrl.st = .setup →
      exec (.setup dt tag q) s =
        .next ((u.withCtrl { u.ctrl with rampIn := rampIn, rampOut := rampOut }).hubReplied tag .ok .none)) ∧
    (u.ctrl.st = .armed ∨ u.ctrl.st = .paused ∨ u.ctrl.st = .halted →
      ∃ t, exec (.setup dt tag q) s = .next t ∧
        t.ctrl = ⟨.setup, .none, 0, rampIn, rampOut⟩ ∧
        t.clock =
          { u.clock with
            st := .free, goodCount := 0, missCount := 0, holdoverCount := 0, renumber := false } ∧
        (∀ i : Fin 48, t.channels[i] = { u.channels[i] with stream := .empty }) ∧
        (∀ i : Fin 64, t.routes[i] = { u.routes[i] with last := (u.routes[i]).rest }) ∧
        (∀ g : Fin 4, t.gens[g] = { u.gens[g] with runState := .idle, triggerAt := none }) ∧
        t.queue = [] ∧ t.discards = u.discards ∧ t.cab.fifo = [] ∧ t.cab.previous = 0 ∧
        t.cab.gapPending = false ∧ t.cab.triggers = u.cab.triggers ∧
        (∀ i : Fin 4, t.cab.conditions[i] = { u.cab.conditions[i] with held := false }) ∧
        (∀ p, (t.port p).st = .off ∧ (t.port p).cfg = (u.port p).cfg ∧
          (t.port p).wait = (u.port p).wait ∧ (t.port p).abort = (u.port p).abort ∧
          (t.port p).rxErrors = (u.port p).rxErrors ∧
          ((u.port p).st ≠ .off →
            (t.port p).inFlight = none ∧ (t.port p).conts = [] ∧ (t.port p).neutral = none ∧
              (t.port p).echoDue = none ∧ (t.port p).sched = none ∧ (t.port p).window = [] ∧
              (t.port p).echo = { Reset.echo with next := (u.port p).echo.next })) ∧
        t.link.replies = u.link.replies ++ [⟨0x81, tag, .ok, .hub .setup 0 .none rampIn rampOut .none⟩] ∧
        (u.link.tx ≠ .idle →
          t.link.slots.state =
            placedOver u.link.slots.state ⟨.setup, u.ctrl.st, .command, .none, 0, u.clock.current⟩ ∧
          ∀ (before after : List Port) (p : Port), [Port.vision, .sound, .cab] = before ++ p :: after →
            (u.port p).st ≠ .off → (∀ p' ∈ after, (u.port p').st = .off) →
              t.link.slots.port.map (·.content) =
                some (portChange t p .off (u.port p).st .setupEntry 0 0)))

/-- The configuration check of ARM finds no fault exactly when some port is enabled, every essential port is
enabled, every route in use names an enabled port and a slot below its slot count, and every generator's
trigger line is NONE or 0 .. 15. A configuration with a fault is refused with BAD_CONFIG, the detail naming
it, and nothing changes. -/
def Obligations.ArmChecksTheConfiguration : Prop :=
  (∀ u : State, u.configFault = none ↔
    (∃ p, (u.port p).cfg.enable = true) ∧
    (∀ p, (u.port p).cfg.essential = true → (u.port p).cfg.enable = true) ∧
    (∀ (i : Fin 64) (p : Port), (u.routes[i]).port = some p →
      (u.port p).cfg.enable = true ∧ (u.routes[i]).slot < (u.port p).cfg.slots) ∧
    ∀ g : Fin 4, (u.gens[g]).triggerLine = 0xFF ∨ (u.gens[g]).triggerLine.toNat ≤ 15) ∧
  ∀ (dt : Nat) (tag : Byte) (q : RampRequest) (s : State) (item : ConfigItem),
    s.canAnswer dt → q.mask.toNat < 4 → (s.taken dt).ctrl.st = .setup →
      (s.taken dt).configFault = some item →
        exec (.arm dt tag q) s = .next ((s.taken dt).hubReplied tag .badConfig (.config item))

/-- ARM accepted, from a SETUP as SETUP entry leaves it: the hub is ARMED with f 0, the clock in ACQUIRE with
good count 0 and renumbering pending, the last of every route in use at its rest value, the anchor of every
PERIODIC generator pending; every enabled port is PROBING with its next echo issued, which starts at once on
a free line, and the others stay OFF. On a busy transmitter an ARM notice of the last enabled port stands in
the PORT slot (that it is the last one's, in the order VISION, SOUND, CAB, is log 31, the model's own). -/
def Obligations.ArmStartsTheApproach : Prop :=
  ∀ (dt : Nat) (tag : Byte) (q : RampRequest) (s : State), s.canAnswer dt → q.mask.toNat < 4 →
    let u := s.taken dt
    u.ctrl.st = .setup → u.configFault = none → u.queue = [] →
    (∀ p, (u.port p).st = .off ∧ (u.port p).quietWhenOff) →
      ∃ t, exec (.arm dt tag q) s = .next t ∧
        t.ctrl.st = .armed ∧ t.ctrl.f = 0 ∧ t.ctrl.reason = .none ∧
        t.clock = { u.clock with st := .acquire, goodCount := 0, renumber := true } ∧
        (∀ i : Fin 64,
          t.routes[i] =
            { u.routes[i] with
              last := if (u.routes[i]).port = none then (u.routes[i]).last else (u.routes[i]).rest }) ∧
        (∀ g : Fin 4,
          t.gens[g] =
            { u.gens[g] with
              anchor := if (u.gens[g]).mode = .periodic then .pending else (u.gens[g]).anchor }) ∧
        (∀ p, (u.port p).cfg.enable = true →
          (t.port p).st = .probing ∧ (t.port p).inbound = none ∧
            (t.port p).echo =
              { (u.port p).echo with
                next := (u.port p).echo.next + 1, outstanding := some ⟨(u.port p).echo.next, 0, none⟩ } ∧
            ((u.port p).wait = false → (u.port p).abort = false →
              (t.port p).inFlight =
                some
                  ⟨⟨.echo, u.clock.current, 0, 0, false, false, (u.port p).echo.next, [], none, none⟩,
                    u.now, 0⟩)) ∧
        (∀ p, (u.port p).cfg.enable = false → (t.port p).st = .off ∧ (t.port p).echo = (u.port p).echo) ∧
        t.channels = u.channels ∧ t.cab = u.cab ∧ t.queue = [] ∧ t.discards = u.discards ∧
        (u.link.tx ≠ .idle →
          t.link.slots.state =
            placedOver u.link.slots.state ⟨.armed, .setup, .command, .none, 0, u.clock.current⟩ ∧
          (u.clock.st = .free →
            t.link.slots.clock =
              placedOver u.link.slots.clock
                ⟨.acquire, .free, u.clock.current, u.clock.lastE, .arm⟩) ∧
          ∀ (before after : List Port) (p : Port), [Port.vision, .sound, .cab] = before ++ p :: after →
            (u.port p).cfg.enable = true → (∀ p' ∈ after, (u.port p').cfg.enable = false) →
              t.link.slots.port.map (·.content) =
                some
                  (portChange t p .probing .off .arm (u.port p).echo.lineDelay
                    (u.port p).echo.declared))

/-- GO in ARMED needs the clock LOCKED, RESUME in PAUSED and RAMP_OUT needs it LOCKED or HOLDOVER, and both need
every essential port RUNNING. Then the hub goes to RAMP_IN with f as it was, or with ramp_in 0 to LIVE with f
256, with one STATE notice. Otherwise the command is refused with NOT_READY, the detail carrying the clock
state and the essential ports not RUNNING. Nothing else changes. -/
def Obligations.GoAndResumeBringMotion : Prop :=
  (∀ (dt : Nat) (tag : Byte) (q : RampRequest) (s : State), s.canAnswer dt → q.mask.toNat < 4 →
     let u := s.taken dt
     let rampIn := if q.mask.getLsbD 0 then q.rampIn.toNat else u.ctrl.rampIn
     let rampOut := if q.mask.getLsbD 1 then q.rampOut.toNat else u.ctrl.rampOut
     let new : HubState := if rampIn = 0 then .live else .rampIn
     let f := if rampIn = 0 then 256 else u.ctrl.f
     let ready := u.clock.st = .locked ∧ ∀ p, (u.port p).cfg.essential = true → (u.port p).st = .running
     u.ctrl.st = .armed →
       (ready →
         ∃ t, exec (.go dt tag q) s = .next t ∧
           t = (u.withCtrl ⟨new, u.ctrl.reason, f, rampIn, rampOut⟩).withLink t.link ∧
           t.link.replies =
             u.link.replies ++ [⟨0x81, tag, .ok, .hub new f u.ctrl.reason rampIn rampOut .none⟩] ∧
           (u.link.tx ≠ .idle →
             t.link.slots.state =
               placedOver u.link.slots.state
                 ⟨new, .armed, .command, u.ctrl.reason, f, u.clock.current⟩)) ∧
       (¬ready →
         exec (.go dt tag q) s =
           .next
             (u.hubReplied tag .notReady
               (.notReady u.clock.st
                 ([Port.vision, .sound, .cab].filter
                   (fun p => (u.port p).cfg.essential && decide ((u.port p).st ≠ .running))))))) ∧
  ∀ (dt : Nat) (tag : Byte) (q : RampRequest) (s : State), s.canAnswer dt → q.mask.toNat < 4 →
    let u := s.taken dt
    let rampIn := if q.mask.getLsbD 0 then q.rampIn.toNat else u.ctrl.rampIn
    let rampOut := if q.mask.getLsbD 1 then q.rampOut.toNat else u.ctrl.rampOut
    let new : HubState := if rampIn = 0 then .live else .rampIn
    let f := if rampIn = 0 then 256 else u.ctrl.f
    let ready :=
      (u.clock.st = .locked ∨ u.clock.st = .holdover) ∧
        ∀ p, (u.port p).cfg.essential = true → (u.port p).st = .running
    u.ctrl.st = .paused ∨ u.ctrl.st = .rampOut →
      (ready →
        ∃ t, exec (.resume dt tag q) s = .next t ∧
          t = (u.withCtrl ⟨new, u.ctrl.reason, f, rampIn, rampOut⟩).withLink t.link ∧
          t.link.replies =
            u.link.replies ++ [⟨0x81, tag, .ok, .hub new f u.ctrl.reason rampIn rampOut .none⟩] ∧
          (u.link.tx ≠ .idle →
            t.link.slots.state =
              placedOver u.link.slots.state
                ⟨new, u.ctrl.st, .command, u.ctrl.reason, f, u.clock.current⟩)) ∧
      (¬ready →
        exec (.resume dt tag q) s =
          .next
            (u.hubReplied tag .notReady
              (.notReady u.clock.st
                ([Port.vision, .sound, .cab].filter
                  (fun p => (u.port p).cfg.essential && decide ((u.port p).st ≠ .running))))))

/-- PAUSE is accepted in RAMP_IN and LIVE. With ramp_out above 0 the hub goes to RAMP_OUT and f keeps its
value; with ramp_out 0 it enters PAUSED at once with f 0: every entry of the event queue is DONE, no EVENT
packet is left in flight, and the level conditions take their snapshot against the previous word. One STATE
notice names the state left. -/
def Obligations.PauseRampsOutOrEntersPaused : Prop :=
  ∀ (dt : Nat) (tag : Byte) (q : RampRequest) (s : State), s.canAnswer dt → q.mask.toNat < 4 →
    let u := s.taken dt
    let rampIn := if q.mask.getLsbD 0 then q.rampIn.toNat else u.ctrl.rampIn
    let rampOut := if q.mask.getLsbD 1 then q.rampOut.toNat else u.ctrl.rampOut
    u.ctrl.st = .rampIn ∨ u.ctrl.st = .live →
      ∃ t, exec (.pause dt tag q) s = .next t ∧
        t.clock = u.clock ∧ t.channels = u.channels ∧ t.gens = u.gens ∧ t.discards = u.discards ∧
        (rampOut ≠ 0 →
          t = (u.withCtrl ⟨.rampOut, u.ctrl.reason, u.ctrl.f, rampIn, rampOut⟩).withLink t.link ∧
            (u.link.tx ≠ .idle →
              t.link.slots.state =
                placedOver u.link.slots.state
                  ⟨.rampOut, u.ctrl.st, .command, u.ctrl.reason, u.ctrl.f, u.clock.current⟩)) ∧
        (rampOut = 0 →
          t.ctrl = ⟨.paused, u.ctrl.reason, 0, rampIn, rampOut⟩ ∧
            (∀ e ∈ t.queue, e.st = .done) ∧
            (∀ p, (∀ k ∈ (u.port p).conts, k.kind = .continuation) → (u.port p).neutral = none →
              ∀ fl, (t.port p).inFlight = some fl → fl.packet.kind ≠ .event) ∧
            t.cab.previous = u.cab.previous ∧ t.cab.fifo = u.cab.fifo ∧
            (∀ i : Fin 4,
              t.cab.conditions[i] =
                { u.cab.conditions[i] with
                  held :=
                    match (u.cab.conditions[i]).type with
                    | .high => u.cab.previous.getLsbD (u.cab.conditions[i]).line.val
                    | .low => !u.cab.previous.getLsbD (u.cab.conditions[i]).line.val
                    | _ => false }) ∧
            (u.link.tx ≠ .idle →
              t.link.slots.state =
                placedOver u.link.slots.state
                  ⟨.paused, u.ctrl.st, .command, u.ctrl.reason, 0, u.clock.current⟩))

/-- HALT from ARMED, RAMP_IN, LIVE, RAMP_OUT and PAUSED: the hub is HALTED with reason COMMAND and f 0, every
entry of the event queue is DONE, every scheduler is IDLE and no CONTINUE packet waits. Each RUNNING port has
one NEUTRAL packet of its rest values, in send order, in flight at once when neither WAIT nor ABORT is
asserted and waiting otherwise. Routes (last included), channels, generators, clock and stamps are kept. In
HALTED the command changes nothing but the ramp fields it names (log 30). -/
def Obligations.HaltSendsRestValues : Prop :=
  ∀ (dt : Nat) (tag : Byte) (q : RampRequest) (s : State), s.canAnswer dt → q.mask.toNat < 4 →
    let u := s.taken dt
    let rampIn := if q.mask.getLsbD 0 then q.rampIn.toNat else u.ctrl.rampIn
    let rampOut := if q.mask.getLsbD 1 then q.rampOut.toNat else u.ctrl.rampOut
    (u.ctrl.st = .halted →
      exec (.halt dt tag q) s =
        .next ((u.withCtrl { u.ctrl with rampIn := rampIn, rampOut := rampOut }).hubReplied tag .ok .none)) ∧
    (u.ctrl.st ≠ .halted → u.ctrl.st ≠ .setup →
      ∃ t, exec (.halt dt tag q) s = .next t ∧
        t.ctrl = ⟨.halted, .command, 0, rampIn, rampOut⟩ ∧
        (∀ e ∈ t.queue, e.st = .done) ∧
        (∀ p, (t.port p).sched = none ∧ (t.port p).conts = [] ∧ (t.port p).st = (u.port p).st ∧
          (t.port p).echo = (u.port p).echo) ∧
        (∀ p, (u.port p).st = .running →
          let n : Packet :=
            { kind := .neutral
              frame := u.clock.current
              firstSlot := (u.port p).cfg.leadSlot
              count := (u.port p).cfg.slots
              degraded := decide (u.clock.st = .holdover)
              ramping := false
              echoNumber := 0
              values :=
                (List.range (u.port p).cfg.slots).map
                  (fun j =>
                    slotValue u.routes.toList (·.rest) p
                      (((u.port p).cfg.leadSlot + j) % (u.port p).cfg.slots))
              latest := none
              eventTag := none }
          if (u.port p).wait = false ∧ (u.port p).abort = false then
            (t.port p).inFlight = some ⟨n, u.now, 0⟩ ∧ (t.port p).neutral = none
          else (t.port p).inFlight = none ∧ (t.port p).neutral = some n) ∧
        t.routes = u.routes ∧ t.channels = u.channels ∧ t.gens = u.gens ∧ t.clock = u.clock ∧
        t.cab = u.cab ∧ t.discards = u.discards ∧
        t.link.replies =
          u.link.replies ++ [⟨0x81, tag, .ok, .hub .halted 0 .command rampIn rampOut .none⟩])

/-! ### Stream channels -/

/-- One pair of an accepted SAMPLES record at the record's instant: a channel above 47 discards it and counts;
an EMPTY channel, a STALE one of age 255, and an instant after t1 take it as newer (SINGLE from EMPTY and
STALE, TRACKING from SINGLE and TRACKING, the newest sample becoming the older one); an instant equal to t1
replaces v1; an earlier one discards the pair and counts. Only that channel and the discard count move. -/
def Obligations.PairIsNewerEqualOrDiscarded : Prop :=
  ∀ (t : Instant) (s : State) (x : Byte × Cue),
    let counted := s.withDiscards (min 65535 (s.discards + 1))
    (48 ≤ x.1.toNat → State.takePair t s x = counted) ∧
    ∀ h : x.1.toNat < 48,
      let c := s.channels[x.1.toNat]
      let taken (st : Stream) := s.withChannels (s.channels.set x.1.toNat { c with stream := st })
      State.takePair t s x =
        match c.stream with
        | .empty => taken (.single ⟨x.2, t⟩)
        | .single n =>
          if 0 < diff t n.instant then taken (.tracking n ⟨x.2, t⟩)
          else if t = n.instant then taken (.single ⟨x.2, t⟩)
          else counted
        | .tracking o n =>
          if 0 < diff t n.instant then taken (.tracking n ⟨x.2, t⟩)
          else if t = n.instant then taken (.tracking o ⟨x.2, t⟩)
          else counted
        | .stale n age =>
          if age = 255 ∨ 0 < diff t n.instant then taken (.single ⟨x.2, t⟩)
          else if t = n.instant then taken (.stale ⟨x.2, t⟩ age)
          else counted

/-- SAMPLES: in SETUP, and for a frame that is not accepted, the record is discarded whole and counted by its
pairs. A record for a frame of the ring up to 31 before the current one, for the current frame or for the
next one takes the instant start plus offset, the offset held below the frame's length; its pairs are then
taken in their order. A pair count outside 1 .. 48 counts a link
error and nothing else. -/
def Obligations.SamplesAreTakenByTheirFrame : Prop :=
  ∀ (dt : Nat) (frame : Frame) (offset : Word) (pairs : List (Byte × Cue)) (s : State),
    s.inReset = false →
      let u := s.taken dt
      let c := Instr.samples dt frame offset pairs
      (pairs.length = 0 ∨ 48 < pairs.length →
        exec c s =
          .next (u.withLink { u.link with linkErrors := min 65535 (u.link.linkErrors + 1) })) ∧
      (1 ≤ pairs.length → pairs.length ≤ 48 →
        (u.ctrl.st = .setup →
          exec c s = .next (u.withDiscards (min 65535 (u.discards + pairs.length)))) ∧
        (2 ≤ (frame - u.clock.current).toNat → 32 ≤ (u.clock.current - frame).toNat →
          exec c s = .next (u.withDiscards (min 65535 (u.discards + pairs.length)))) ∧
        (1 ≤ (u.clock.current - frame).toNat → (u.clock.current - frame).toNat ≤ 31 →
          u.clock.ringStart frame = none →
          exec c s = .next (u.withDiscards (min 65535 (u.discards + pairs.length)))) ∧
        (∀ a b, u.ctrl.st ≠ .setup → 1 ≤ (u.clock.current - frame).toNat →
          (u.clock.current - frame).toNat ≤ 31 → u.clock.ringStart frame = some a →
          u.clock.ringStart (frame + 1) = some b →
          exec c s =
            .next
              (pairs.foldl
                (State.takePair (a + BitVec.ofInt 32 (min (offset.toNat : Int) (diff b a - 1)))) u)) ∧
        (u.ctrl.st ≠ .setup → frame = u.clock.current → 0 < diff u.clock.frameEnd u.clock.start →
          exec c s =
            .next
              (pairs.foldl
                (State.takePair
                  (u.clock.start +
                    BitVec.ofInt 32
                      (min (offset.toNat : Int) (diff u.clock.frameEnd u.clock.start - 1)))) u)) ∧
        (u.ctrl.st ≠ .setup → frame = u.clock.current + 1 → 0 < u.clock.set.frameLen →
          exec c s =
            .next
              (pairs.foldl
                (State.takePair
                  (u.clock.start + BitVec.ofNat 32 u.clock.set.frameLen +
                    BitVec.ofNat 32 (min offset.toNat (u.clock.set.frameLen - 1)))) u)))

/-- The row STALE_ENTRY: a frame start at which a SINGLE or TRACKING channel's newest sample is older than
stale_limit frames. That channel enters STALE with age 0 and keeps the sample; at the same frame start every
other channel ages likewise: a STALE one adds one to its age, stopping at 255, and the rest stay. No channel
setting moves. -/
def Obligations.StaleEntryAgesTheChannels : Prop :=
  ∀ (s : State) (ch : Fin 48) (n : Sample), s.frameEndComes →
    ((s.channels[ch]).stream = .single n ∨ ∃ o, (s.channels[ch]).stream = .tracking o n) →
    ((((s.channels[ch]).staleLimit * s.clock.set.frameLen : Nat) : Int) <
      diff s.clock.frameEnd n.instant) →
      ∃ t, exec (.staleEntry ch) s = .next t ∧ t.clock.cueTime = s.clock.frameEnd ∧
        (t.channels[ch]).stream = .stale n 0 ∧
        ∀ i : Fin 48,
          let c := s.channels[i]
          let old (x : Sample) : Bool :=
            decide (((c.staleLimit * s.clock.set.frameLen : Nat) : Int) < diff s.clock.frameEnd x.instant)
          t.channels[i] =
            { c with
              stream :=
                match c.stream with
                | .empty => .empty
                | .single x => if old x then .stale x 0 else .single x
                | .tracking o x => if old x then .stale x 0 else .tracking o x
                | .stale x age => .stale x (min 255 (age + 1)) }

/-- SET_CHANNEL in any hub state: a channel number outside 0 .. 47 is refused with BAD_VALUE and no record; a
mask bit beyond the four fields or a merged setting out of range refuses it with BAD_VALUE and the record as
held; otherwise the merged settings replace the held ones. State and samples never move. -/
def Obligations.SetChannelUpdatesTheSettings : Prop :=
  ∀ (dt : Nat) (tag : Byte) (q : ChannelRequest) (s : State), s.canAnswer dt →
    let u := s.taken dt
    (48 ≤ q.channel.toNat →
      exec (.setChannel dt tag q) s = .next (u.replied 0x83 tag .badValue (.channel q.channel none))) ∧
    ∀ h : q.channel.toNat < 48,
      let held := u.channels[q.channel.toNat]
      let policy := if q.mask.getLsbD 2 then stalePolicyOf q.stalePolicy else some held.stalePolicy
      let m : Channel :=
        { stream := held.stream
          leadMax := if q.mask.getLsbD 0 then q.leadMax.toNat else held.leadMax
          staleLimit := if q.mask.getLsbD 1 then q.staleLimit.toNat else held.staleLimit
          stalePolicy := policy.getD held.stalePolicy
          fadeFrames := if q.mask.getLsbD 3 then q.fadeFrames.toNat else held.fadeFrames }
      let passes :=
        q.mask.toNat < 16 ∧ policy ≠ none ∧ m.leadMax ≤ 20000 ∧ 1 ≤ m.staleLimit ∧
          m.staleLimit ≤ 255 ∧ 1 ≤ m.fadeFrames ∧ m.fadeFrames ≤ 255
      (¬passes →
        exec (.setChannel dt tag q) s =
          .next (u.replied 0x83 tag .badValue (.channel q.channel (some held)))) ∧
      (passes →
        exec (.setChannel dt tag q) s =
          .next
            ((u.withChannels (u.channels.set q.channel.toNat m)).replied 0x83 tag .ok
              (.channel q.channel (some m))))

/-! ### Route table and the cue computation -/

/-- SET_ROUTE by its four steps: an index outside 0 .. 63 (BAD_VALUE, no record), source, port or slot named
outside SETUP (WRONG_STATE), the first failing check of the merged record (BAD_VALUE with that check), a pair
that another route in use holds (SLOT_TAKEN with that route); otherwise the merged record replaces the held
one, its last set to its rest in SETUP and kept elsewhere. A mask bit beyond the ten fields refuses it with
BAD_VALUE first. CLEAR_ROUTE: an index outside 0 .. 63 is refused with BAD_VALUE, and any index outside SETUP
with WRONG_STATE; in SETUP every field of the route takes its power-on value. No refusal changes anything.
(That a refused CLEAR_ROUTE carries the result code alone is log 20, DEDUCED.) -/
def Obligations.RoutesAreWrittenAndCleared : Prop :=
  (∀ (dt : Nat) (tag : Byte) (q : RouteRequest) (s : State), s.canAnswer dt →
     let u := s.taken dt
     let c := Instr.setRoute dt tag q
     (64 ≤ q.route.toNat →
       exec c s = .next (u.replied 0x84 tag .badValue (.route q.route none false .none))) ∧
     ∀ h : q.route.toNat < 64,
       let held := u.routes[q.route.toNat]
       let refused (r : Result) (d : RouteDetail) :=
         Host.Outcome.next (φ := Fault) (ρ := Refusal)
           (u.replied 0x84 tag r (.route q.route (some held) held.port.isSome d))
       let fixedNamed := q.mask.getLsbD 0 = true ∨ q.mask.getLsbD 1 = true ∨ q.mask.getLsbD 2 = true
       let source := if q.mask.getLsbD 0 then sourceOf q.sourceKind q.sourceNumber else some held.source
       let port := if q.mask.getLsbD 1 then routePortOf q.port else some held.port
       let lead := if q.mask.getLsbD 9 then flagOf q.lead else some held.lead
       let m : Route :=
         { source := source.getD held.source
           port := port.getD held.port
           slot := if q.mask.getLsbD 2 then q.slot.toNat else held.slot
           gain := if q.mask.getLsbD 3 then q.gain else held.gain
           offset := if q.mask.getLsbD 4 then q.offset else held.offset
           lo := if q.mask.getLsbD 5 then q.lo else held.lo
           hi := if q.mask.getLsbD 6 then q.hi else held.hi
           rest := if q.mask.getLsbD 7 then q.rest else held.rest
           slew := if q.mask.getLsbD 8 then q.slew.toNat else held.slew
           lead := lead.getD held.lead
           last := held.last }
       let slots := match m.port with | some .vision => 12 | some .sound => 20 | _ => 32
       let failing : Option RouteCheck :=
         if source = none then some .source
         else if port = none then some .port
         else if slots ≤ m.slot then some .slot
         else if m.rest.toInt < m.lo.toInt ∨ m.hi.toInt < m.rest.toInt then some .limits
         else if 32767 < m.slew then some .slew
         else if lead = none then some .lead
         else none
       let holds (j : Fin 64) : Prop :=
         j.val ≠ q.route.toNat ∧ m.port ≠ none ∧ (u.routes[j]).port = m.port ∧ (u.routes[j]).slot = m.slot
       let stored : Route := if u.ctrl.st = .setup then { m with last := m.rest } else m
       (1024 ≤ q.mask.toNat → exec c s = refused .badValue .none) ∧
       (q.mask.toNat < 1024 → u.ctrl.st ≠ .setup → fixedNamed → exec c s = refused .wrongState .none) ∧
       (q.mask.toNat < 1024 → u.ctrl.st = .setup ∨ ¬fixedNamed →
         (∀ check, failing = some check → exec c s = refused .badValue (.check check)) ∧
         (failing = none → (∃ j, holds j) →
           ∃ j, holds j ∧ exec c s = refused .slotTaken (.taken j)) ∧
         (failing = none → (∀ j, ¬holds j) →
           exec c s =
             .next
               ((u.withRoutes (u.routes.set q.route.toNat stored)).replied 0x84 tag .ok
                 (.route q.route (some stored) stored.port.isSome .none))))) ∧
  ∀ (dt : Nat) (tag i : Byte) (s : State), s.canAnswer dt →
    let u := s.taken dt
    (64 ≤ i.toNat → exec (.clearRoute dt tag i) s = .next (u.replied 0x85 tag .badValue .bare)) ∧
    (i.toNat < 64 → u.ctrl.st ≠ .setup →
      exec (.clearRoute dt tag i) s = .next (u.replied 0x85 tag .wrongState .bare)) ∧
    ∀ h : i.toNat < 64, u.ctrl.st = .setup →
      let cleared : Route := ⟨.none, none, 0, 4096, 0, 0x8000, 0x7FFF, 0, 0, false, 0⟩
      exec (.clearRoute dt tag i) s =
        .next
          ((u.withRoutes (u.routes.set i.toNat cleared)).replied 0x85 tag .ok
            (.route i (some cleared) false .none))

/-- The requests that read (GET_ROUTE, GET_PORT, GET_STATUS) are taken in every hub state, return what they
name as it stands, and change nothing but the reply queue: of an outstanding echo GET_PORT gives the number,
the age and whether it has been sent. A route index outside 0 .. 63 and a port number other than 0, 1 and 2
are refused with BAD_VALUE (that such a refusal carries the result code alone is log 20, DEDUCED). -/
def Obligations.ReadsChangeNothing : Prop :=
  ∀ (dt : Nat) (tag i : Byte) (s : State), s.canAnswer dt →
    let u := s.taken dt
    (64 ≤ i.toNat → exec (.getRoute dt tag i) s = .next (u.replied 0x86 tag .badValue .bare)) ∧
    (∀ h : i.toNat < 64,
      exec (.getRoute dt tag i) s =
        .next
          (u.replied 0x86 tag .ok
            (.route i (some u.routes[i.toNat]) (u.routes[i.toNat]).port.isSome .none))) ∧
    (3 ≤ i.toNat → exec (.getPort dt tag i) s = .next (u.replied 0x88 tag .badValue .bare)) ∧
    (∀ p, portOf i = some p →
      let b := u.port p
      exec (.getPort dt tag i) s =
        .next
          (u.replied 0x88 tag .ok
            (.portReport i
              (some
                ⟨b.cfg, b.st,
                  { next := b.echo.next
                    outstanding := b.echo.outstanding.map (fun o => (o.number, o.age, o.sent.isSome))
                    missCount := b.echo.missCount
                    lastRoundTrip := b.echo.lastRoundTrip
                    turnaround := b.echo.turnaround
                    declared := b.echo.declared
                    lineDelay := b.echo.lineDelay },
                  b.wait, b.abort,
                  b.inFlight.map (fun fl => (fl.packet.kind, fl.packet.frame)), b.rxErrors, b.latCue,
                  b.skipCount, b.partialCount⟩)))) ∧
    exec (.getStatus dt tag) s =
      .next
        (u.replied 0x95 tag .ok
          (.status
            { hub := u.ctrl.st, reason := u.ctrl.reason, clock := u.clock.st,
              frame := u.clock.current, lastE := u.clock.lastE,
              vision := u.portStatus .vision, sound := u.portStatus .sound, cab := u.portStatus .cab,
              linkErrors := u.link.linkErrors, overruns := u.link.overruns, discards := u.discards,
              entries := u.queue.length,
              doneEntries := (u.queue.filter (fun e => decide (e.st = .done))).length,
              stamps := u.cab.fifo.length }))

/-- The value of a slot: with rest within lo .. hi it lies within lo .. hi; with a slew above 0 and last
within lo .. hi it lies within the slew of last; with f 0 and slew 0 it is the rest value; and with f 256,
slew 0 and source CONST it is the offset held within lo .. hi.

And whole, by the six stages: the source value (the newest sample, the prediction from the two samples of a
TRACKING channel with lead enabled, the policy's value of a STALE one, a generator's level or rate), scaled
by the gain with the offset added and saturated, or the offset of CONST; held within lo .. hi, or the rest
value where there is none; moved from rest by f / 256, rounded; limited to the slew from last; held within
lo .. hi. (The table of R77 disagrees with these stages in one line: log 34.) -/
def Obligations.SlotValueKeepsLimitsSlewAndRamp : Prop :=
  (∀ (r : Route) (channels : Vector Channel 48) (gens : Vector Generator 4) (f : Nat) (p : Instant),
    r.lo.toInt ≤ r.rest.toInt → r.rest.toInt ≤ r.hi.toInt →
      let v := (r.compute channels gens f p).toInt
      (r.lo.toInt ≤ v ∧ v ≤ r.hi.toInt) ∧
      (r.slew ≠ 0 → r.lo.toInt ≤ r.last.toInt → r.last.toInt ≤ r.hi.toInt →
        |v - r.last.toInt| ≤ r.slew) ∧
      (f = 0 → r.slew = 0 → v = r.rest.toInt) ∧
      (f = 256 → r.slew = 0 → r.source = .const →
        v = max r.lo.toInt (min r.hi.toInt r.offset.toInt))) ∧
  ∀ (r : Route) (channels : Vector Channel 48) (gens : Vector Generator 4) (f : Nat) (p : Instant),
    let channelValue (c : Channel) : Option Int :=
      match c.stream with
      | .empty => none
      | .single x => some x.value.toInt
      | .tracking o x =>
        let lead := max 0 (min (c.leadMax : Int) (diff p x.instant))
        let slope := nearest ((x.value.toInt - o.value.toInt) * lead) (diff x.instant o.instant).toNat
        some (if r.lead then held16 (x.value.toInt + slope) else x.value.toInt)
      | .stale x age =>
        some
          (match c.stalePolicy with
          | .hold => x.value.toInt
          | .fade =>
            nearest (x.value.toInt * ((c.fadeFrames - min age c.fadeFrames : Nat) : Int)) c.fadeFrames
          | .zero => 0)
    let period (g : Generator) : Nat := if g.period = 0 then 65536 else g.period.toNat
    let level (g : Generator) : Int :=
      match g.mode, g.anchor, g.triggerAt with
      | .off, _, _ => 0
      | .periodic, .at a, _ =>
        if diff p a % (period g : Int) < g.highTime.toNat then g.levelA.toInt else g.levelB.toInt
      | .oneShot, _, some a =>
        if 0 ≤ diff p a ∧ diff p a < g.highTime.toNat then g.levelA.toInt else g.levelB.toInt
      | _, _, _ => g.levelB.toInt
    let rate (g : Generator) : Int :=
      if g.mode = .periodic then min 32767 (nearest 10000000 (period g)) else 0
    let scaled (x : Int) : Int := held16 (nearest (x * r.gain.toInt) 4096 + r.offset.toInt)
    let source : Option Int :=
      match r.source with
      | .none => none
      | .stream n => (channelValue channels[n]).map scaled
      | .genLevel g => some (scaled (level gens[g]))
      | .genRate g => some (scaled (rate gens[g]))
      | .const => some r.offset.toInt
    let target : Int :=
      match source with
      | none => r.rest.toInt
      | some x => max r.lo.toInt (min r.hi.toInt x)
    let ramped := r.rest.toInt + nearest ((target - r.rest.toInt) * f) 256
    let slewed :=
      if r.slew = 0 ∨ |ramped - r.last.toInt| ≤ r.slew then ramped
      else if r.last.toInt < ramped then r.last.toInt + r.slew
      else r.last.toInt - r.slew
    (r.compute channels gens f p).toInt = max r.lo.toInt (min r.hi.toInt slewed)

/-! ### Waveform generators -/

/-- SET_GENERATOR in any hub state: an index outside 0 .. 3 is refused with BAD_VALUE and no record, a mask
bit beyond the six fields or a masked mode code outside the three with BAD_VALUE, and outside SETUP a merged
trigger line that is neither NONE nor 0 .. 15 with BAD_VALUE. Otherwise the merged settings replace the held
ones; a change of mode makes the run state IDLE and trigger_at absent, and the anchor the start of the
current frame when the new mode is PERIODIC and absent when not. A held mode changes none of the three. -/
def Obligations.SetGeneratorUpdatesTheSettings : Prop :=
  ∀ (dt : Nat) (tag : Byte) (q : GeneratorRequest) (s : State), s.canAnswer dt →
    let u := s.taken dt
    let c := Instr.setGenerator dt tag q
    (4 ≤ q.generator.toNat →
      exec c s = .next (u.replied 0x89 tag .badValue (.generator q.generator none 0 none))) ∧
    ∀ h : q.generator.toNat < 4,
      let held := u.gens[q.generator.toNat]
      let mode := if q.mask.getLsbD 0 then generatorModeOf q.mode else some held.mode
      let new := mode.getD held.mode
      let line := if q.mask.getLsbD 5 then q.triggerLine else held.triggerLine
      let passes :=
        q.mask.toNat < 64 ∧ mode ≠ none ∧
          (u.ctrl.st = .setup ∨ line = 0xFF ∨ line.toNat ≤ 15)
      let m : Generator :=
        { mode := new
          period := if q.mask.getLsbD 1 then q.period else held.period
          highTime := if q.mask.getLsbD 2 then q.highTime else held.highTime
          levelA := if q.mask.getLsbD 3 then q.levelA else held.levelA
          levelB := if q.mask.getLsbD 4 then q.levelB else held.levelB
          triggerLine := line
          runState := if new = held.mode then held.runState else .idle
          triggerAt := if new = held.mode then held.triggerAt else none
          anchor :=
            if new = held.mode then held.anchor
            else if new = .periodic then .at u.clock.start else .absent }
      (¬passes →
        exec c s =
          .next (u.replied 0x89 tag .badValue (.generator q.generator (some held) held.rate none))) ∧
      (passes →
        exec c s =
          .next
            ((u.withGens (u.gens.set q.generator.toNat m)).replied 0x89 tag .ok
              (.generator q.generator (some m) m.rate none)))

/-- START_GENERATOR by its four checks in their order: index (BAD_VALUE, no record), hub state SETUP
(WRONG_STATE), a mode other than ONE_SHOT (WRONG_STATE with the mode held), a pulse in progress
(IN_PROGRESS). When all pass the generator is in PULSE with trigger_at the instant of the record's
completion. Every reply naming a valid index carries the record as it then stands. STOP_GENERATOR is accepted
in every hub state for an index of 0 .. 3: a ONE_SHOT generator becomes IDLE with trigger_at absent, so that
its level is level_b at every instant; any other is left as it was. (That a STOP_GENERATOR reply carries the
result code alone is log 20, DEDUCED.) -/
def Obligations.StartAndStopMoveTheOneShot : Prop :=
  (∀ (dt : Nat) (tag i : Byte) (s : State), s.canAnswer dt →
     let u := s.taken dt
     let c := Instr.startGenerator dt tag i
     (4 ≤ i.toNat → exec c s = .next (u.replied 0x8A tag .badValue (.generator i none 0 none))) ∧
     ∀ h : i.toNat < 4,
       let g := u.gens[i.toNat]
       let started : Generator := { g with runState := .pulse, triggerAt := some (s.elapse dt).now }
       exec c s =
         .next
           (if u.ctrl.st = .setup then
             u.replied 0x8A tag .wrongState (.generator i (some g) g.rate none)
           else if g.mode ≠ .oneShot then
             u.replied 0x8A tag .wrongState (.generator i (some g) g.rate (some g.mode))
           else if g.runState = .pulse then
             u.replied 0x8A tag .inProgress (.generator i (some g) g.rate none)
           else
             (u.withGens (u.gens.set i.toNat started)).replied 0x8A tag .ok
               (.generator i (some started) started.rate none))) ∧
  ∀ (dt : Nat) (tag i : Byte) (s : State), s.canAnswer dt →
    let u := s.taken dt
    let c := Instr.stopGenerator dt tag i
    (4 ≤ i.toNat → exec c s = .next (u.replied 0x8B tag .badValue .bare)) ∧
    ∀ h : i.toNat < 4,
      let g := u.gens[i.toNat]
      let stopped : Generator := { g with runState := .idle, triggerAt := none }
      (g.mode ≠ .oneShot → exec c s = .next (u.replied 0x8B tag .ok .bare)) ∧
      (g.mode = .oneShot →
        exec c s = .next ((u.withGens (u.gens.set i.toNat stopped)).replied 0x8B tag .ok .bare) ∧
          ∀ p, stopped.level p = g.levelB.toInt)

/-- The row PULSE_END: a frame start whose presentation instant is at or after trigger_at plus high_time
brings the generator to IDLE and keeps trigger_at and every setting; its level at every instant stays as it
was. The advance of an anchor at a frame start leaves it less than one period behind the frame start and
changes no level of the wave at any later instant, as long as the differences stay inside the half range. At
the frame start that begins frame 0 a pending anchor becomes that frame start, and nothing else of the
generator moves. -/
def Obligations.GeneratorsAtAFrameStart : Prop :=
  (∀ (s : State) (g : Fin 4) (at_ : Instant), s.frameEndComes →
     (s.gens[g]).mode = .oneShot → (s.gens[g]).runState = .pulse → (s.gens[g]).triggerAt = some at_ →
     ((s.gens[g]).highTime.toNat : Int) ≤
       diff (s.clock.frameEnd + BitVec.ofNat 32 s.clock.set.presentPhase) at_ →
       ∃ t, exec (.pulseEnd g) s = .next t ∧ t.clock.cueTime = s.clock.frameEnd ∧
         t.gens[g] = { s.gens[g] with runState := .idle } ∧
         ∀ p, (t.gens[g]).level p = (s.gens[g]).level p) ∧
  (∀ (g : Generator) (renumbering : Bool) (anchor now p instant : Instant), g.mode = .periodic →
    g.anchor = .at anchor → 0 ≤ diff now anchor → 0 ≤ diff instant now →
    diff now anchor + diff instant now < 2 ^ 31 →
      let next := g.frameStart renumbering now p
      next.level instant = g.level instant ∧
        ∃ a, next.anchor = .at a ∧ 0 ≤ diff now a ∧
          diff now a < (if g.period = 0 then 65536 else g.period.toNat)) ∧
  ∀ (s : State) (g : Fin 4), s.frameEndComes → s.clock.renumber = true →
    (s.gens[g]).mode = .periodic → (s.gens[g]).anchor = .pending →
      ∃ t, exec .frameStart s = .next t ∧
        t.gens[g] = { s.gens[g] with anchor := .at s.clock.frameEnd }

/-! ### Board ports -/

/-- SET_PORT by its three steps: a port number other than 0, 1 and 2 (BAD_VALUE, no record), a SETUP-only
field named outside SETUP (WRONG_STATE), a merged field out of range (BAD_VALUE); a mask bit beyond the
eleven fields refuses it with BAD_VALUE first. No refusal changes anything, nor does a request that leaves
the record as held. Otherwise the merged record is held, and the port's two latencies are formed anew from
it: base delay, line delay and transit time, held within 0 .. 60000. When the guard or the latency changes,
N_b on a line that is taken or held off, and the destinations that wait or are due and never started, take
their instants anew. -/
def Obligations.SetPortUpdatesTheConfiguration : Prop :=
  ∀ (dt : Nat) (tag : Byte) (q : PortRequest) (s : State), s.canAnswer dt →
    let u := s.taken dt
    let c := Instr.setPort dt tag q
    (portOf q.port = none →
      exec c s = .next (u.replied 0x87 tag .badValue (.portConfig q.port none))) ∧
    ∀ p, portOf q.port = some p →
      let b := u.port p
      let held := b.cfg
      let refused (r : Result) :=
        Host.Outcome.next (φ := Fault) (ρ := Refusal)
          (u.replied 0x87 tag r (.portConfig q.port (some held)))
      let fixedNamed :=
        q.mask.getLsbD 0 = true ∨ q.mask.getLsbD 1 = true ∨ q.mask.getLsbD 2 = true ∨
          q.mask.getLsbD 3 = true ∨ q.mask.getLsbD 4 = true ∨ q.mask.getLsbD 5 = true
      let enable := if q.mask.getLsbD 0 then flagOf q.enable else some held.enable
      let essential := if q.mask.getLsbD 1 then flagOf q.essential else some held.essential
      let source := if q.mask.getLsbD 6 then latencySourceOf q.latencySource else some held.latencySource
      let m : PortConfig :=
        { enable := enable.getD held.enable
          essential := essential.getD held.essential
          slots := if q.mask.getLsbD 2 then q.slots.toNat else held.slots
          width := if q.mask.getLsbD 3 then q.width.toNat else held.width
          beatPeriod := if q.mask.getLsbD 4 then q.beatPeriod.toNat else held.beatPeriod
          leadSlot := if q.mask.getLsbD 5 then q.leadSlot.toNat else held.leadSlot
          latencySource := source.getD held.latencySource
          fixedLatency := if q.mask.getLsbD 7 then q.fixedLatency.toNat else held.fixedLatency
          guard := if q.mask.getLsbD 8 then q.guard.toNat else held.guard
          echoInterval := if q.mask.getLsbD 9 then q.echoInterval.toNat else held.echoInterval
          skipLimit := if q.mask.getLsbD 10 then q.skipLimit.toNat else held.skipLimit }
      let most := match p with | .vision => 12 | .sound => 20 | .cab => 32
      let inRange :=
        enable ≠ none ∧ essential ≠ none ∧ source ≠ none ∧ 1 ≤ m.slots ∧ m.slots ≤ most ∧
          (m.width = 1 ∨ m.width = 2 ∨ m.width = 4) ∧ 1 ≤ m.beatPeriod ∧ m.beatPeriod ≤ 16 ∧
          m.leadSlot < m.slots ∧ m.fixedLatency ≤ 60000 ∧ m.guard ≤ 2000 ∧ 1 ≤ m.echoInterval ∧
          m.echoInterval ≤ 255 ∧ 1 ≤ m.skipLimit ∧ m.skipLimit ≤ 15
      let base : Int :=
        match m.latencySource with
        | .declared => b.echo.declared
        | .observed => b.echo.declared + b.correction
        | .fixed => m.fixedLatency
      let latency (payload : Nat) : Nat :=
        (max 0 (min (60000 : Int)
          (base + b.echo.lineDelay + ((3 + (payload + m.width - 1) / m.width) * m.beatPeriod : Nat)))).toNat
      (2048 ≤ q.mask.toNat → exec c s = refused .badValue) ∧
      (q.mask.toNat < 2048 → u.ctrl.st ≠ .setup → fixedNamed → exec c s = refused .wrongState) ∧
      (q.mask.toNat < 2048 → u.ctrl.st = .setup ∨ ¬fixedNamed →
        (¬inRange → exec c s = refused .badValue) ∧
        (inRange → m = held →
          exec c s = .next (u.replied 0x87 tag .ok (.portConfig q.port (some held)))) ∧
        (inRange → m ≠ held →
          ∃ t, exec c s = .next t ∧ (t.port p).cfg = m ∧ (t.port p).latCue = latency m.slots ∧
            (t.port p).latEvent = latency 4 ∧ (t.port p).st = b.st ∧ (t.port p).echo = b.echo ∧
            (t.port p).window = b.window ∧ (∀ p', p' ≠ p → (t.port p').cfg = (u.port p').cfg) ∧
            t.clock = u.clock ∧ t.ctrl = u.ctrl ∧ t.channels = u.channels ∧ t.gens = u.gens ∧
            t.cab = u.cab ∧ t.discards = u.discards ∧
            t.link.replies =
              u.link.replies ++ [⟨0x87, tag, .ok, .portConfig q.port (some m)⟩] ∧
            (∀ sc presentation, m.guard ≠ held.guard ∨ latency m.slots ≠ b.latCue →
              b.sched = some sc → u.clock.presentation sc.next = some presentation → b.heldOff →
              let latest := presentation - BitVec.ofNat 32 (latency m.slots)
              let release := latest - BitVec.ofNat 32 m.guard
              past latest u.now = false →
                (t.port p).sched = some ⟨sc.next, release, latest, sc.due || past release u.now⟩) ∧
            (m.guard ≠ held.guard ∨ latency 4 ≠ b.latEvent → ∀ e ∈ u.queue, e.st = .active →
              ∀ presentation, u.clock.presentation e.frame = some presentation →
              let latest := presentation - BitVec.ofNat 32 (latency 4)
              let release := latest - BitVec.ofNat 32 m.guard
              ∃ e' ∈ t.queue, e'.tag = e.tag ∧ e'.frame = e.frame ∧ ∀ d ∈ e.dests, d.port = p →
                (∀ r l, d.state = .waiting r l → reached release u.now = false →
                  ∃ d' ∈ e'.dests, d'.port = p ∧ d'.state = .waiting release latest) ∧
                (∀ l, d.state = .due l → d.starts = 0 → b.heldOff → past latest u.now = false →
                  ∃ d' ∈ e'.dests, d'.port = p ∧ d'.state = .due latest))))

/-- PAYLOAD_BEAT_END: at the end of a payload beat of a CUE or CONTINUE packet the slots delivered rise by
the beat's slots, to at most the packet's, and nothing else moves. PACKET_COMPLETE: at the end of the trailer
the line is free; the destination of an EVENT packet is SENT, and the outstanding echo that the packet
carried takes the instant as its send instant. -/
def Obligations.BeatsAndTrailersEnd : Prop :=
  (∀ (s : State) (p : Port) (t : Instant) (fl : InFlight), s.comes (.beatEnd p) t →
    (s.port p).inFlight = some fl →
      exec (.payloadBeatEnd p) s =
        .next
          ((s.atInstant t).withPort p
            { s.port p with
              inFlight :=
                some
                  { fl with
                    delivered := min fl.packet.values.length (fl.delivered + (s.port p).cfg.width) } })) ∧
  ∀ (s : State) (p : Port) (at_ : Instant) (fl : InFlight), s.comes (.complete p) at_ →
    (s.port p).inFlight = some fl →
      ∃ t, exec (.packetComplete p) s = .next t ∧ t.clock = { s.clock with cueTime := at_ } ∧
        t.ctrl = s.ctrl ∧ t.channels = s.channels ∧ t.gens = s.gens ∧ t.cab = s.cab ∧
        t.discards = s.discards ∧
        (∀ next, (t.port p).inFlight = some next → next.start = at_ ∧ next.delivered = 0) ∧
        (∀ o, fl.packet.kind = .echo → (s.port p).echo.outstanding = some o →
          o.number = fl.packet.echoNumber →
            (t.port p).echo.outstanding = some { o with sent := some at_ }) ∧
        (∀ tag e d l, fl.packet.kind = .event → fl.packet.eventTag = some tag → e ∈ s.queue →
          e.st = .active → e.tag = tag → d ∈ e.dests → d.port = p → d.state = .inFlight l →
            ∃ e' ∈ t.queue, e'.tag = tag ∧ ∃ d' ∈ e'.dests, d'.port = p ∧ d'.state = .sent)

/-- WAIT: its assertion moves nothing but the level, so a packet in flight runs on; its release lets an ECHO
that alone is due on the free line start at once. While WAIT or ABORT is asserted no packet starts: an EVENT
packet that falls due at its release waits, and so does an ECHO issued at a frame start. ABORT: its assertion
empties the in-flight record; a CUE or CONTINUE packet with slots left waits on as a CONTINUE packet of the
same frame, flags and latest start, from the first slot not delivered, with the values left; the slots
delivered are those of the payload beats that have ended. An EVENT, NEUTRAL or ECHO packet waits to be resent
whole, with its own words, latest start, number and frame. Its release lets a packet that alone is due start
at once. -/
def Obligations.WaitAndAbortActOnTheLine : Prop :=
  (∀ (dt : Nat) (p : Port) (s : State), s.inReset = false →
     let u := s.elapse dt
     exec (.waitAssert dt p) s = .next (u.withPort p { u.port p with wait := true }) ∧
     ∃ t, exec (.waitRelease dt p) s = .next t ∧ (t.port p).wait = false ∧ t.clock = u.clock ∧
       t.ctrl = u.ctrl ∧
       (∀ fl, (u.port p).inFlight = some fl → (t.port p).inFlight = some fl) ∧
       ((u.port p).abort = true → (t.port p).inFlight = (u.port p).inFlight) ∧
       (∀ e, u.queue = [] → (u.port p).sched = none → (u.port p).conts = [] →
         (u.port p).neutral = none → (u.port p).inFlight = none → (u.port p).abort = false →
         (u.port p).echoDue = some e →
           (t.port p).inFlight =
             some
               ⟨⟨.echo, e.frame.getD u.clock.current, 0, 0, false, false, e.number, [], none, none⟩,
                 u.now, 0⟩ ∧
           (t.port p).echoDue = none)) ∧
  (∀ (s : State) (tag : Byte) (p : Port) (e : Entry) (d : Destination) (release latest : Instant),
    s.comes (.destinationRelease tag p) release → s.entry tag = some e → e.st = .active →
    d ∈ e.dests → d.port = p → d.state = .waiting release latest → past latest release = false →
    (s.port p).st = .running → (s.port p).inFlight = none →
    (s.port p).wait = true ∨ (s.port p).abort = true →
      ∃ t, exec (.destinationRelease tag p) s = .next t ∧ (t.port p).inFlight = none ∧
        ∃ e' ∈ t.queue, e'.tag = tag ∧ ∃ d' ∈ e'.dests, d'.port = p ∧ d'.state = .due latest) ∧
  (∀ (s : State) (p : Port), s.frameEndComes → (s.port p).st = .running →
    (s.port p).echo.outstanding = none → (s.port p).echo.missCount = 0 →
    (s.port p).cfg.echoInterval ≤ (s.port p).echo.intervalCount + 1 → (s.port p).inFlight = none →
    (s.port p).wait = true ∨ (s.port p).abort = true →
      ∃ t, exec (.echoInterval p) s = .next t ∧ (t.port p).inFlight = none ∧
        (t.port p).echoDue = some ⟨(s.port p).echo.next, none⟩) ∧
  ∀ (dt : Nat) (p : Port) (s : State), s.inReset = false →
    let u := s.elapse dt
    let b := u.port p
    (∃ t, exec (.abortAssert dt p) s = .next t ∧ (t.port p).abort = true ∧
      (t.port p).inFlight = none ∧ t.clock = u.clock ∧ t.ctrl = u.ctrl ∧
      (∀ fl tag, b.inFlight = some fl → fl.packet.kind = .event → fl.packet.eventTag = some tag →
        ∀ e ∈ u.queue, e.st = .active → e.tag = tag → ∀ d ∈ e.dests, ∀ l, d.port = p →
          d.state = .inFlight l → past l u.now = false →
            ∃ e' ∈ t.queue, e'.tag = tag ∧ { d with state := .due l } ∈ e'.dests) ∧
      (∀ fl, b.inFlight = some fl → fl.packet.kind = .neutral →
        (t.port p).neutral = some fl.packet) ∧
      (∀ fl o, b.inFlight = some fl → fl.packet.kind = .echo → b.echo.outstanding = some o →
        o.number = fl.packet.echoNumber →
          (t.port p).echo = b.echo ∧ (t.port p).echoDue = some ⟨o.number, some fl.packet.frame⟩) ∧
      ∀ fl l, b.inFlight = some fl → fl.packet.kind = .cue ∨ fl.packet.kind = .continuation →
        fl.packet.latest = some l → past l u.now = false →
          let ended := ((u.now - fl.start).toNat / b.cfg.beatPeriod - 2) * b.cfg.width
          let n := max fl.delivered (min fl.packet.values.length ended)
          n < fl.packet.values.length →
            { fl.packet with
              kind := .continuation
              firstSlot := (fl.packet.firstSlot + n) % b.cfg.slots
              count := fl.packet.values.length - n
              values := fl.packet.values.drop n } ∈ (t.port p).conts) ∧
    ∃ t, exec (.abortRelease dt p) s = .next t ∧ (t.port p).abort = false ∧ t.clock = u.clock ∧
      t.ctrl = u.ctrl ∧
      (u.queue = [] → b.sched = none → b.inFlight = none → b.wait = false →
        (∀ k l, b.conts = [k] → k.latest = some l → past l u.now = false →
          (t.port p).inFlight = some ⟨k, u.now, 0⟩ ∧ (t.port p).conts = []) ∧
        (∀ k, b.conts = [] → b.neutral = some k →
          (t.port p).inFlight = some ⟨k, u.now, 0⟩ ∧ (t.port p).neutral = none))

/-- The row ECHO_INTERVAL: a frame start at which a RUNNING port without an outstanding echo, its last one
answered, brings its interval count to echo_interval: the next echo is issued with age 0 and the count is 0
again. The row ECHO_MISSED: a frame start at which an outstanding echo reaches age 4: it is missed, the miss
count rises and the next echo is issued; a RUNNING port whose miss count reaches 3 goes LOST, and one that is
essential, lost alone in LIVE with the clock LOCKED, halts the hub with reason PORT_LOST. On LOST entry the
packet in flight is cut, nothing else stays due on the line, so that the new echo starts at once unless WAIT
or ABORT is asserted, and a destination in flight on the port is DROPPED; a due one is DROPPED and neither a
skip nor a partial packet is counted, where the choice in force takes the echoes before the schedulers (log 5,
the model's own). Where the loss halts the hub in the same frame start, that the new echo outlasts the halt,
on the line or due, is the model's own choice too (log 22, DEDUCED). A port lost alone leaves its PORT notice
on a busy transmitter. -/
def Obligations.EchoesAtFrameStarts : Prop :=
  ∀ (s : State) (p : Port), s.frameEndComes →
    let b := s.port p
    (b.st = .running → b.echo.outstanding = none → b.echo.missCount = 0 →
      b.cfg.echoInterval ≤ b.echo.intervalCount + 1 →
        ∃ t, exec (.echoInterval p) s = .next t ∧ t.clock.cueTime = s.clock.frameEnd ∧
          (t.port p).st = .running ∧
          (t.port p).echo =
            { b.echo with
              next := b.echo.next + 1
              outstanding := some ⟨b.echo.next, 0, none⟩
              intervalCount := 0 }) ∧
    ∀ o, b.st ≠ .off → b.echo.outstanding = some o → o.age = 3 →
      ∃ t, exec (.echoMissed p) s = .next t ∧ t.clock.cueTime = s.clock.frameEnd ∧
        (t.port p).echo =
          { b.echo with
            next := b.echo.next + 1
            outstanding := some ⟨b.echo.next, 0, none⟩
            missCount := min 255 (b.echo.missCount + 1) } ∧
        (t.port p).st = (if b.st = .running ∧ 3 ≤ b.echo.missCount + 1 then .lost else b.st) ∧
        (b.st = .running → 3 ≤ b.echo.missCount + 1 →
          (t.port p).sched = none ∧ (t.port p).conts = [] ∧ (t.port p).neutral = none ∧
          (if b.wait = true ∨ b.abort = true then
            (t.port p).inFlight = none ∧ (t.port p).echoDue = some ⟨b.echo.next, none⟩
          else
            (t.port p).echoDue = none ∧
            (t.port p).inFlight =
              some
                ⟨⟨.echo, t.clock.current, 0, 0, false, false, b.echo.next, [], none, none⟩,
                  s.clock.frameEnd, 0⟩) ∧
          (∀ e ∈ s.queue, e.st = .active → ∃ e' ∈ t.queue, e'.tag = e.tag ∧ ∀ d ∈ e.dests, d.port = p →
            (∃ l, d.state = .inFlight l) ∨ (s.choice.buildsFirst = false ∧ ∃ l, d.state = .due l) →
              ∃ d' ∈ e'.dests, d'.port = p ∧ d'.state = .dropped) ∧
          (s.choice.buildsFirst = false →
            (t.port p).skipCount = b.skipCount ∧ (t.port p).partialCount = b.partialCount) ∧
          ((∀ p', p' ≠ p → (s.port p').goesLost = false) → s.link.tx ≠ .idle →
            t.link.slots.port =
              placedOver s.link.slots.port
                (portChange t p .lost .running .echoMissed b.echo.lineDelay b.echo.declared))) ∧
        (b.st = .running → 3 ≤ b.echo.missCount + 1 → b.cfg.essential = true → s.ctrl.st = .live →
          s.clock.st = .locked → (∀ p', p' ≠ p → (s.port p').goesLost = false) →
            t.ctrl.st = .halted ∧ t.ctrl.reason = .portLost p ∧ t.ctrl.f = 0)

/-- ECHO_REPLY to the outstanding echo, once it is sent: the echo is answered and the counts are 0; the round
trip is the arrival of the kind word less the send instant, the line delay half of it less the turnaround,
rounded up and at least 0, the declared delay at most 50000; a port in PROBING, RUNNING or LOST is RUNNING,
with its latencies formed anew: base delay, line delay and transit time, held within 0 .. 60000. A change of
its state leaves a PORT notice on a busy transmitter. On a RUNNING port whose latency changes, N_b on a line
that is taken or held off, and the destinations that wait or are due and never started, take their instants
anew. A reply whose number is not the outstanding echo's is ignored. (Stated for a report whose kind word came
since the port entered PROBING: an earlier one is not taken.) -/
def Obligations.EchoReplySetsTheDelays : Prop :=
  ∀ (dt : Nat) (p : Port) (span : Nat) (number delay turnaround : Word) (s : State) (o : OutstandingEcho),
    s.inReset = false →
      let u := s.elapse dt
      let b := u.port p
      let c := Instr.echoReply dt p span number delay turnaround
      b.st ≠ .off → b.inbound = none → b.openFor span u.now → b.echo.outstanding = some o →
        (number.toNat ≠ o.number.toNat → exec c s = .next u) ∧
        ∀ sent, number.toNat = o.number.toNat → o.sent = some sent →
          let trip := diff (u.now - BitVec.ofNat 32 span) sent
          let declared := min 50000 delay.toNat
          let lineDelay := (-((turnaround.toNat - trip) / 2)).toNat
          let base : Int :=
            match b.cfg.latencySource with
            | .declared => declared
            | .observed => declared + b.correction
            | .fixed => b.cfg.fixedLatency
          let latency (payload : Nat) : Nat :=
            (max 0 (min (60000 : Int)
              (base + lineDelay +
                ((3 + (payload + b.cfg.width - 1) / b.cfg.width) * b.cfg.beatPeriod : Nat)))).toNat
          ∃ t, exec c s = .next t ∧ (t.port p).st = .running ∧ (t.port p).inbound = none ∧
            (t.port p).echo =
              { b.echo with
                outstanding := none
                missCount := 0
                intervalCount := 0
                lastRoundTrip := some trip
                turnaround := some turnaround.toNat
                declared := declared
                lineDelay := lineDelay } ∧
            (b.st ≠ .running → u.link.tx ≠ .idle →
              t.link.slots.port =
                placedOver u.link.slots.port
                  (portChange t p .running b.st .echoAnswered lineDelay declared)) ∧
            (b.st = .running → latency b.cfg.slots ≠ b.latCue → b.heldOff → ∀ sc presentation,
              b.sched = some sc → u.clock.presentation sc.next = some presentation →
              let latest := presentation - BitVec.ofNat 32 (latency b.cfg.slots)
              let release := latest - BitVec.ofNat 32 b.cfg.guard
              past latest u.now = false →
                (t.port p).sched = some ⟨sc.next, release, latest, sc.due || past release u.now⟩) ∧
            (b.st = .running → latency 4 ≠ b.latEvent → ∀ e ∈ u.queue, e.st = .active →
              ∀ presentation, u.clock.presentation e.frame = some presentation →
              let latest := presentation - BitVec.ofNat 32 (latency 4)
              let release := latest - BitVec.ofNat 32 b.cfg.guard
              ∃ e' ∈ t.queue, e'.tag = e.tag ∧ e'.frame = e.frame ∧ ∀ d ∈ e.dests, d.port = p →
                (∀ r l, d.state = .waiting r l → reached release u.now = false →
                  ∃ d' ∈ e'.dests, d'.port = p ∧ d'.state = .waiting release latest) ∧
                (∀ l, d.state = .due l → d.starts = 0 → b.heldOff → past latest u.now = false →
                  ∃ d' ∈ e'.dests, d'.port = p ∧ d'.state = .due latest)) ∧
            (t.port p).latCue = latency b.cfg.slots ∧ (t.port p).latEvent = latency 4 ∧
            (t.port p).rxErrors = b.rxErrors ∧
            t.clock = u.clock ∧ t.ctrl = u.ctrl ∧ t.channels = u.channels ∧ t.gens = u.gens ∧
            t.cab = u.cab ∧ t.discards = u.discards

/-- PRESENTED from a RUNNING port for a frame in the ring: the error, the arrival less the line delay less
the frame's presentation instant, joins the port's window, the oldest of 8 entries leaving it first. The
correction is then the ceiling of the mean of the window's errors, held within -10000 .. 10000, and enters the
latencies under OBSERVED alone. From a port that is not RUNNING, or for a frame not in the ring, the report
changes nothing. (Stated for a report whose kind word came since the port entered PROBING.) -/
def Obligations.PresentedReportsEnterTheWindow : Prop :=
  ∀ (dt : Nat) (p : Port) (span : Nat) (frame : Frame) (s : State), s.inReset = false →
    let u := s.elapse dt
    let b := u.port p
    let c := Instr.presented dt p span frame
    b.inbound = none → b.openFor span u.now →
      (b.st ≠ .running ∨ u.clock.ringStart frame = none → exec c s = .next u) ∧
      ∀ start, b.st = .running → u.clock.ringStart frame = some start →
        let error :=
          diff (u.now - BitVec.ofNat 32 span - BitVec.ofNat 32 b.echo.lineDelay)
            (start + BitVec.ofNat 32 u.clock.set.presentPhase)
        let window := (if 8 ≤ b.window.length then b.window.drop 1 else b.window) ++ [⟨frame, error⟩]
        let sum := (window.map (·.error)).sum
        let latency (mean : Int) (payload : Nat) : Nat :=
          let base : Int :=
            match b.cfg.latencySource with
            | .declared => b.echo.declared
            | .observed => b.echo.declared + max (-10000) (min 10000 mean)
            | .fixed => b.cfg.fixedLatency
          (max 0 (min (60000 : Int)
            (base + b.echo.lineDelay +
              ((3 + (payload + b.cfg.width - 1) / b.cfg.width) * b.cfg.beatPeriod : Nat)))).toNat
        ∃ t, exec c s = .next t ∧
          (t.port p).window = window ∧
          (∃ mean : Int, sum ≤ mean * window.length ∧ (mean - 1) * window.length < sum ∧
            (t.port p).correction = max (-10000) (min 10000 mean) ∧
            (t.port p).latCue = latency mean b.cfg.slots ∧ (t.port p).latEvent = latency mean 4) ∧
          (t.port p).echo = b.echo ∧ (t.port p).st = .running ∧ (t.port p).cfg = b.cfg ∧
          t.clock = u.clock ∧ t.ctrl = u.ctrl ∧ t.channels = u.channels ∧ t.gens = u.gens ∧
          t.cab = u.cab ∧ t.discards = u.discards

/-- DISCARDED_KIND_WORD and REPORT_BAD_SUM: a word that names no report where a kind word is expected, and a
report whose sum word is wrong, raise the port's receive error count by one, to at most 65535, and move
nothing else; a port in OFF takes no word and counts nothing. A port takes no word received before its entry to
PROBING: of a report all but whose last word came before it, that word alone is taken, as a kind word, which is
counted if it names no report. (That the words of a report come evenly is log 15, the model's own.) -/
def Obligations.BadWordsAreCounted : Prop :=
  ∀ (dt : Nat) (p : Port) (s : State), s.inReset = false →
    let u := s.elapse dt
    let b := u.port p
    let counted := u.withPort p { b with rxErrors := min 65535 (b.rxErrors + 1) }
    b.inbound = none →
      (∀ word : Word, word.toNat = 0 ∨ 3 < word.toNat →
        exec (.discardedKindWord dt p word) s = .next (if b.st = .off then u else counted)) ∧
      (∀ (span : Nat) (kind : Word) (fields : List Word) (sum : Word),
        1 ≤ kind.toNat → kind.toNat ≤ 3 → fields.length = (if kind.toNat = 1 then 3 else 1) →
        sum ≠ fields.foldl (· + ·) kind → b.openFor span u.now →
          exec (.reportBadSum dt p span (kind :: fields) sum) s =
            .next (if b.st = .off then u else counted)) ∧
      ∀ (span : Nat) (frame : Frame) (t : Instant), b.st ≠ .off → b.openedAt = some t →
        (u.now - t).toNat < span - span / 2 →
          let word : Word := 2 + frame
          exec (.presented dt p span frame) s =
            .next
              (if 1 ≤ word.toNat ∧ word.toNat ≤ 3 then
                u.withPort p { b with inbound := some ⟨[word], u.now⟩ }
              else counted)

/-! ### Delivery -/

/-- RELEASE: the CUE packet of N_b falls due. On a line that is taken or held off it waits; on a free line
with nothing else due on the port it starts at once, for N_b, with the values its build leaves in the routes
that feed the port, each computed for P(N_b) with the f in force (by the stages that
SlotValueKeepsLimitsSlewAndRamp states), and its flags by the clock and the hub. -/
def Obligations.ReleaseStartsTheCuePacket : Prop :=
  ∀ (s : State) (p : Port) (sc : Schedule), s.comes (.release p) sc.release →
    (s.port p).sched = some sc → past sc.latest sc.release = false →
      let b := s.port p
      let u := s.atInstant sc.release
      let presentation := u.clock.presentationOr sc.next u.now
      ∃ t, exec (.release p) s = .next t ∧ t.clock = u.clock ∧ t.ctrl = s.ctrl ∧
        t.channels = s.channels ∧ t.gens = s.gens ∧ t.cab = s.cab ∧ t.discards = s.discards ∧
        (b.inFlight ≠ none ∨ b.wait = true ∨ b.abort = true →
          (t.port p).sched = some { sc with due := true } ∧ (t.port p).inFlight = b.inFlight) ∧
        (b.inFlight = none → b.wait = false → b.abort = false → b.conts = [] → s.queue = [] →
          (∃ k, (t.port p).inFlight = some ⟨k, sc.release, 0⟩ ∧ k.kind = .cue ∧ k.frame = sc.next ∧
            k.firstSlot = b.cfg.leadSlot ∧ k.count = b.cfg.slots ∧ k.latest = some sc.latest ∧
            k.degraded = decide (s.clock.st = .holdover) ∧
            k.ramping = decide (s.ctrl.st = .rampIn ∨ s.ctrl.st = .rampOut) ∧
            k.values =
              (List.range b.cfg.slots).map
                (fun j =>
                  slotValue t.routes.toList (·.last) p ((b.cfg.leadSlot + j) % b.cfg.slots))) ∧
          ∀ i : Fin 64, (s.routes[i]).port = some p → (s.routes[i]).slot < b.cfg.slots →
            t.routes[i] =
              { s.routes[i] with
                last := (s.routes[i]).compute s.channels s.gens s.ctrl.f presentation })

/-- SKIP: at the latest start of N_b, on a line that is taken or held off, the skip count rises by one, to at
most 255; N_b becomes the next frame, with the instants formed from the clock, as long as its own latest
start is not past; and from skip_limit on a LATE notice is placed. PARTIAL: the one CONTINUE packet waiting
on a port leaves at its latest start, and the partial count rises by one, to at most 65535. -/
def Obligations.LateFramesAreSkipped : Prop :=
  (∀ (s : State) (p : Port) (sc : Schedule), s.comes (.skip p) sc.latest →
    (s.port p).sched = some sc →
    (s.port p).inFlight ≠ none ∨ (s.port p).wait = true ∨ (s.port p).abort = true →
      let b := s.port p
      let presentation := (s.atInstant sc.latest).clock.presentationOr (sc.next + 1) sc.latest
      let latest := presentation - BitVec.ofNat 32 b.latCue
      past latest sc.latest = false →
        ∃ t, exec (.skip p) s = .next t ∧
          (t.port p).skipCount = min 255 (b.skipCount + 1) ∧
          (∃ due, (t.port p).sched =
            some ⟨sc.next + 1, latest - BitVec.ofNat 32 b.cfg.guard, latest, due⟩) ∧
          (t.port p).inFlight = b.inFlight ∧ t.clock = { s.clock with cueTime := sc.latest } ∧
          t.ctrl = s.ctrl ∧ t.channels = s.channels ∧ t.gens = s.gens ∧ t.cab = s.cab ∧
          (b.cfg.skipLimit ≤ min 255 (b.skipCount + 1) → s.link.tx ≠ .idle →
            (∀ p', p' ≠ p → (s.port p').sched = none) →
            t.link.slots.late =
              placedOver s.link.slots.late
                ⟨p, sc.next, min 255 (b.skipCount + 1), b.latCue, b.cfg.guard, s.clock.current⟩)) ∧
  ∀ (s : State) (p : Port) (k : Packet) (l : Instant), s.comes (.partialEnd p) l →
    (s.port p).conts = [k] → k.latest = some l →
      ∃ t, exec (.partialEnd p) s = .next t ∧ (t.port p).conts = [] ∧
        (t.port p).partialCount = min 65535 ((s.port p).partialCount + 1) ∧
        t.clock = { s.clock with cueTime := l } ∧ t.ctrl = s.ctrl ∧ t.channels = s.channels ∧
        t.gens = s.gens ∧ t.cab = s.cab

/-! ### Coupled events -/

/-- EVENT_POST by the checks of R142 and the slip search of R143, in RAMP_IN, LIVE and RAMP_OUT: a post in
range to enabled ports, whose tag no entry carries, with a place free, is admitted for the first frame from
the base frame on, within the slip limit, for which no destination's release is past. When each release lies
after now, the queue takes one ACTIVE entry of the host's fields with every destination WAITING, immediately
ahead of the first ACTIVE entry of a later frame, or at the end, and the reply gives the frame and the slip
used. With no such frame it is refused with TOO_LATE. -/
def Obligations.EventPostAdmitsTheFirstFrameInTime : Prop :=
  ∀ (dt : Nat) (tag : Byte) (q : PostRequest) (s : State) (base : Frame), s.canAnswer dt →
    let u := s.taken dt
    let c := Instr.eventPost dt tag q
    let dests := [Port.vision, .sound, .cab].filter
      (fun p => match p with
        | .vision => q.destinations.getLsbD 0
        | .sound => q.destinations.getLsbD 1
        | .cab => q.destinations.getLsbD 2)
    let latestAt (f : Frame) (p : Port) : Instant :=
      u.clock.presentationOr f u.now - BitVec.ofNat 32 (u.port p).latEvent
    let releaseAt (f : Frame) (p : Port) : Instant := latestAt f p - BitVec.ofNat 32 (u.port p).cfg.guard
    let inTime (f : Frame) : Prop := ∀ p ∈ dests, past (releaseAt f p) u.now = false
    let done := (u.queue.filter (fun e => decide (e.st = .done))).length
    u.ctrl.st = .rampIn ∨ u.ctrl.st = .live ∨ u.ctrl.st = .rampOut →
    q.kind.toNat ≤ 15 → q.shape.toNat ≤ 15 → 1 ≤ q.duration.toNat → q.slipLimit.toNat ≤ 15 →
    1 ≤ q.destinations.toNat → q.destinations.toNat ≤ 7 →
    (∀ p ∈ dests, (u.port p).cfg.enable = true) →
    (q.frame = 0xFFFF ∧ base = u.clock.current + 1 ∨
      q.frame ≠ 0xFFFF ∧ base = q.frame ∧ 1 ≤ (q.frame - u.clock.current).toNat ∧
        (q.frame - u.clock.current).toNat ≤ 255) →
    (∀ e ∈ u.queue, e.tag ≠ q.eventTag) → u.queue.length < 24 →
      (∀ k, k ≤ q.slipLimit.toNat → (∀ j < k, ¬inTime (base + BitVec.ofNat 16 j)) →
        let f := base + BitVec.ofNat 16 k
        (∀ p ∈ dests, reached (releaseAt f p) u.now = false) →
          let e : Entry :=
            { tag := q.eventTag, kind := q.kind, shape := q.shape, amplitude := q.amplitude,
              duration := q.duration, frame := f, slipLimit := q.slipLimit.toNat, slipUsed := k,
              st := .active,
              dests := dests.map (fun p => ⟨p, .waiting (releaseAt f p) (latestAt f p), none, 0, none⟩) }
          let later (x : Entry) : Prop :=
            x.st = .active ∧ 1 ≤ (x.frame - f).toNat ∧ (x.frame - f).toNat ≤ 32767
          ∃ ahead behind, u.queue = ahead ++ behind ∧ (∀ x ∈ ahead, ¬later x) ∧
            (∀ x, behind.head? = some x → later x) ∧
            exec c s =
              .next
                ((u.withQueue (ahead ++ e :: behind)).replied 0x90 tag .ok
                  (.post q.eventTag (some (f, k)) (u.queue.length + 1) done .none))) ∧
      ((∀ k ≤ q.slipLimit.toNat, ¬inTime (base + BitVec.ofNat 16 k)) →
        ∃ d, exec c s =
          .next (u.replied 0x90 tag .tooLate (.post q.eventTag none u.queue.length done d)))

/-- The refusals of EVENT_POST before the slip search, in their order: the hub state, the ranges, a port not
enabled, a frame at or before the current one or 256 or more after it, a tag in use, a full queue. None
changes anything but the reply queue. (The frame exactly 32768 away is left out: log 16.) -/
def Obligations.EventPostRefusals : Prop :=
  ∀ (dt : Nat) (tag : Byte) (q : PostRequest) (s : State), s.canAnswer dt →
    let u := s.taken dt
    let done := (u.queue.filter (fun e => decide (e.st = .done))).length
    let refused (r : Result) (d : PostDetail) : Prop :=
      exec (.eventPost dt tag q) s = .next (u.replied 0x90 tag r (.post q.eventTag none u.queue.length done d))
    let admits := u.ctrl.st = .rampIn ∨ u.ctrl.st = .live ∨ u.ctrl.st = .rampOut
    let inRange :=
      q.kind.toNat ≤ 15 ∧ q.shape.toNat ≤ 15 ∧ 1 ≤ q.duration.toNat ∧ q.slipLimit.toNat ≤ 15 ∧
        1 ≤ q.destinations.toNat ∧ q.destinations.toNat ≤ 7
    let named (p : Port) : Bool :=
      match p with
      | .vision => q.destinations.getLsbD 0
      | .sound => q.destinations.getLsbD 1
      | .cab => q.destinations.getLsbD 2
    let disabled (p : Port) : Prop := named p = true ∧ (u.port p).cfg.enable = false
    let ahead := (q.frame - u.clock.current).toNat
    (¬admits → refused .wrongState .none) ∧
    (admits → ¬inRange → refused .badValue .none) ∧
    (admits → inRange →
      (disabled .vision → refused .badValue (.notEnabled .vision)) ∧
      (¬disabled .vision → disabled .sound → refused .badValue (.notEnabled .sound)) ∧
      (¬disabled .vision → ¬disabled .sound → disabled .cab → refused .badValue (.notEnabled .cab)) ∧
      ((∀ p, ¬disabled p) →
        (q.frame ≠ 0xFFFF → ahead = 0 ∨ 32768 < ahead → refused .tooLate .none) ∧
        (q.frame ≠ 0xFFFF → 256 ≤ ahead → ahead < 32768 → refused .badValue .none) ∧
        (q.frame = 0xFFFF ∨ 1 ≤ ahead ∧ ahead ≤ 255 →
          (∀ e, u.queue.find? (fun e => e.tag = q.eventTag) = some e → refused .tagInUse (.held e.st)) ∧
          ((∀ e ∈ u.queue, e.tag ≠ q.eventTag) → 24 ≤ u.queue.length →
            refused .queueFull (.doneEntries done)))))

/-- DESTINATION_RELEASE: a WAITING destination whose release is reached is DROPPED when its port is not
RUNNING, MISSED when its latest start lies before then, and otherwise DUE or already on the line. Where its
port's line is free and nothing else is due there the EVENT packet starts at once: of the entry's frame, with
the flags in force and the four words tag, kind and shape, amplitude, duration, the amplitude fixed as
round(amplitude * f / 256); starts becomes 1. When ABORT has interrupted it, its release starts the same packet
again, and starts rises by one, to at most 255. The row MISSED: a DUE destination whose latest start is
reached is MISSED. -/
def Obligations.DestinationsAreReleasedOrMissed : Prop :=
  (∀ (s : State) (tag : Byte) (p : Port) (e : Entry) (d : Destination) (release latest : Instant),
    s.comes (.destinationRelease tag p) release → s.entry tag = some e → e.st = .active →
    d ∈ e.dests → d.port = p → d.state = .waiting release latest →
      ∃ t, exec (.destinationRelease tag p) s = .next t ∧
        t.clock = { s.clock with cueTime := release } ∧ t.ctrl = s.ctrl ∧ t.channels = s.channels ∧
        t.gens = s.gens ∧ t.cab = s.cab ∧
        ∃ e' ∈ t.queue, e'.tag = tag ∧ e'.frame = e.frame ∧ ∃ d' ∈ e'.dests, d'.port = p ∧
          ((s.port p).st ≠ .running → d'.state = .dropped) ∧
          ((s.port p).st = .running → past latest release = true → d'.state = .missed) ∧
          ((s.port p).st = .running → past latest release = false →
            d'.state = .due latest ∨ d'.state = .inFlight latest)) ∧
  (∀ (s : State) (p : Port) (e : Entry) (d : Destination) (release latest : Instant),
    s.comes (.destinationRelease e.tag p) release → s.queue = [e] → e.st = .active → e.dests = [d] →
    d.port = p → d.state = .waiting release latest → d.packet = none → past latest release = false →
    (s.port p).st = .running → ¬(s.port p).heldOff → (s.port p).conts = [] →
    (∀ sc, (s.port p).sched = some sc → sc.due = false ∧ past sc.latest release = false) →
      let amplitude : Word := BitVec.ofInt 16 (nearest (e.amplitude.toInt * s.ctrl.f) 256)
      let k : Packet :=
        { kind := .event
          frame := e.frame
          firstSlot := 0
          count := 4
          degraded := decide (s.clock.st = .holdover)
          ramping := decide (s.ctrl.st = .rampIn ∨ s.ctrl.st = .rampOut)
          echoNumber := 0
          values := [e.tag.setWidth 16, e.kind ++ e.shape, amplitude, e.duration.setWidth 16]
          latest := some latest
          eventTag := some e.tag }
      ∃ t, exec (.destinationRelease e.tag p) s = .next t ∧
        (t.port p).inFlight = some ⟨k, release, 0⟩ ∧
        t.queue =
          [{ e with
              dests :=
                [{ d with
                    state := .inFlight latest
                    amplitudeSent := some amplitude
                    starts := min 255 (d.starts + 1)
                    packet := some k }] }]) ∧
  (∀ (dt : Nat) (s : State) (p : Port) (e : Entry) (d : Destination) (k : Packet) (latest : Instant),
    s.inReset = false →
      let u := s.elapse dt
      u.queue = [e] → e.st = .active → e.dests = [d] → d.port = p → d.state = .due latest →
      d.packet = some k → past latest u.now = false → (u.port p).inFlight = none →
      (u.port p).wait = false → (u.port p).conts = [] →
      (∀ sc, (u.port p).sched = some sc → sc.due = false ∧ past sc.latest u.now = false) →
        ∃ t, exec (.abortRelease dt p) s = .next t ∧ (t.port p).inFlight = some ⟨k, u.now, 0⟩ ∧
          t.queue =
            [{ e with
                dests :=
                  [{ d with
                      state := .inFlight latest
                      amplitudeSent := some (k.values.getD 2 0)
                      starts := min 255 (d.starts + 1) }] }]) ∧
  ∀ (s : State) (tag : Byte) (p : Port) (e : Entry) (d : Destination) (latest : Instant),
    s.comes (.missed tag p) latest → s.entry tag = some e → e.st = .active → d ∈ e.dests →
    d.port = p → d.state = .due latest →
      ∃ t, exec (.missed tag p) s = .next t ∧ t.clock = { s.clock with cueTime := latest } ∧
        t.ctrl = s.ctrl ∧ t.ports = s.ports ∧ t.routes = s.routes ∧ t.channels = s.channels ∧
        t.gens = s.gens ∧ t.cab = s.cab ∧
        ∃ e' ∈ t.queue, e'.tag = tag ∧ e'.frame = e.frame ∧
          ∃ d' ∈ e'.dests, d'.port = p ∧ d'.state = .missed

/-- EVENT_CANCEL: NO_ENTRY for a tag no entry carries; IN_PROGRESS, with nothing changed, for an entry that
is DONE or has a destination that is not WAITING; otherwise every destination is DROPPED, the entry is DONE
in its place, an OUTCOMES notice is placed, and the reply carries its frame and its destinations. (That a
NO_ENTRY reply carries the result code alone is log 20, DEDUCED.) -/
def Obligations.EventCancelDropsAWaitingEntry : Prop :=
  ∀ (dt : Nat) (tag eventTag : Byte) (s : State), s.canAnswer dt →
    let u := s.taken dt
    let c := Instr.eventCancel dt tag eventTag
    let report (e : Entry) : ReplyBody :=
      .cancel e.frame (e.dests.map (fun d => ⟨d.port, d.outcome, d.progress⟩))
    ((∀ e ∈ u.queue, e.tag ≠ eventTag) →
      exec c s = .next (u.replied 0x91 tag .noEntry .bare)) ∧
    (u.tagsFit → ∀ e ∈ u.queue, e.tag = eventTag →
      (e.st = .done ∨ (∃ d ∈ e.dests, ∀ r l, d.state ≠ .waiting r l) →
        exec c s = .next (u.replied 0x91 tag .inProgress (report e))) ∧
      (e.st = .active → (∀ d ∈ e.dests, ∃ r l, d.state = .waiting r l) →
        let dropped := e.dests.map (fun d => { d with state := DestState.dropped })
        let queue :=
          u.queue.map (fun x => if x.tag = eventTag then { x with st := .done, dests := dropped } else x)
        ∃ t, exec c s = .next t ∧ t = (u.withQueue queue).withLink t.link ∧
          t.link.replies =
            u.link.replies ++ [⟨0x91, tag, .ok, report { e with dests := dropped }⟩] ∧
          (u.link.tx ≠ .idle →
            t.link.slots.outcomes =
              placedOver u.link.slots.outcomes
                ⟨eventTag, e.frame, dropped.map (fun d => (d.port, .dropped)),
                  (queue.filter (fun x => decide (x.st = .done))).length, u.clock.current⟩)))

/-! ### Cab input unit -/

/-- INPUT on the CAB port, not PAUSED: the report's word becomes the previous word and the conditions stay.
Every line with a qualifying edge under its trigger type writes one stamp, in line order, while the FIFO has
room for all of them; a line of type HIGH or LOW offers its trigger at every report in which it stands at its
level, another type at its qualifying edges; a ONE_SHOT generator in IDLE on such a line starts its pulse at
the report's arrival less the line delay, and every other generator is left alone. The first stamp written
into an empty FIFO leaves a STAMPS notice on a busy transmitter, and no other stamp does. -/
def Obligations.InputStampsEdgesAndTriggers : Prop :=
  ∀ (dt span : Nat) (lines : Word) (s : State), s.inReset = false →
    let u := s.elapse dt
    let b := u.port .cab
    b.st ≠ .off → b.inbound = none → b.openFor span u.now → u.ctrl.st ≠ .paused →
      let instant := u.now - BitVec.ofNat 32 span - BitVec.ofNat 32 b.echo.lineDelay
      let old (n : Fin 16) : Bool := u.cab.previous.getLsbD n.val
      let new (n : Fin 16) : Bool := lines.getLsbD n.val
      let stamps (n : Fin 16) : Bool :=
        match u.cab.triggers[n] with
        | .none => false
        | .rising | .high => !old n && new n
        | .falling | .low => old n && !new n
        | .either => old n != new n
      let offers (n : Fin 16) : Bool :=
        match u.cab.triggers[n] with
        | .high => new n
        | .low => !new n
        | _ => stamps n
      let stamped := (List.finRange 16).filter stamps
      ∃ t, exec (.input dt .cab span lines) s = .next t ∧ t.cab.previous = lines ∧
        t.cab.conditions = u.cab.conditions ∧ t.cab.triggers = u.cab.triggers ∧ t.ctrl = u.ctrl ∧
        t.clock = u.clock ∧ t.ports = u.ports ∧ t.queue = u.queue ∧ t.routes = u.routes ∧
        t.channels = u.channels ∧ t.discards = u.discards ∧
        (u.cab.fifo.length + stamped.length ≤ 32 →
          t.cab.fifo.map (fun x => (x.source, x.edge, x.frame, x.offset)) =
            u.cab.fifo.map (fun x => (x.source, x.edge, x.frame, x.offset)) ++
              stamped.map
                (fun n =>
                  (.cabLine n, if new n then .rising else .falling, (u.clock.locate instant).1,
                    (u.clock.locate instant).2))) ∧
        (u.link.tx ≠ .idle →
          t.link.slots.stamps =
            match u.cab.fifo, stamped with
            | [], n :: _ =>
              placedOver u.link.slots.stamps
                ⟨⟨.cabLine n, if new n then .rising else .falling, (u.clock.locate instant).1,
                  (u.clock.locate instant).2, u.cab.gapPending⟩, 1, u.clock.current⟩
            | _, _ => u.link.slots.stamps) ∧
        ∀ g : Fin 4,
          let triggered : Bool :=
            decide ((u.gens[g]).mode = .oneShot) && decide ((u.gens[g]).runState = .idle) &&
              (List.finRange 16).any (fun n => decide ((u.gens[g]).triggerLine.toNat = n.val) && offers n)
          t.gens[g] =
            if triggered then { u.gens[g] with runState := .pulse, triggerAt := some instant }
            else u.gens[g]

/-- INPUT in PAUSED: each used condition is judged by its flag and the report by the table of R170, and a flag
held back is cleared when its line leaves its level. When one fires the hub, if ready to resume, goes to
RAMP_IN, or to LIVE with ramp_in 0, with a STATE notice of cause RESUME_CONDITION that names the first one; if
not ready it stays PAUSED, with a STATE notice of cause RESUME_REFUSED that names the condition, the clock
state and the essential ports not RUNNING (stated for one that fires alone); if none fires it stays PAUSED
too, and places none. -/
def Obligations.ResumeConditionsResume : Prop :=
  ∀ (dt span : Nat) (lines : Word) (s : State), s.inReset = false →
    let u := s.elapse dt
    (u.port .cab).st ≠ .off → (u.port .cab).inbound = none → (u.port .cab).openFor span u.now →
    u.ctrl.st = .paused →
      let fires (i : Fin 4) : Prop :=
        let c := u.cab.conditions[i]
        let old := u.cab.previous.getLsbD c.line.val
        let new := lines.getLsbD c.line.val
        c.held = false ∧
          match c.type with
          | .none => False
          | .rising => old = false ∧ new = true
          | .falling => old = true ∧ new = false
          | .either => old ≠ new
          | .high => new = true
          | .low => new = false
      let ready :=
        (u.clock.st = .locked ∨ u.clock.st = .holdover) ∧
          ∀ p, (u.port p).cfg.essential = true → (u.port p).st = .running
      ∃ t, exec (.input dt .cab span lines) s = .next t ∧ t.cab.previous = lines ∧
        (∀ i : Fin 4,
          t.cab.conditions[i] =
            { u.cab.conditions[i] with
              held :=
                match (u.cab.conditions[i]).type with
                | .high =>
                  (u.cab.conditions[i]).held && lines.getLsbD (u.cab.conditions[i]).line.val
                | .low =>
                  (u.cab.conditions[i]).held && !lines.getLsbD (u.cab.conditions[i]).line.val
                | _ => (u.cab.conditions[i]).held }) ∧
        ((∃ i, fires i) → ready →
          t.ctrl =
            { u.ctrl with
              st := if u.ctrl.rampIn = 0 then .live else .rampIn
              f := if u.ctrl.rampIn = 0 then 256 else u.ctrl.f }) ∧
        (¬((∃ i, fires i) ∧ ready) → t.ctrl = u.ctrl) ∧
        (u.link.tx ≠ .idle →
          (∀ i, fires i → (∀ j, j < i → ¬fires j) → ready →
            t.link.slots.state =
              placedOver u.link.slots.state
                ⟨t.ctrl.st, .paused, .resumeCondition i, u.ctrl.reason, t.ctrl.f, u.clock.current⟩) ∧
          (∀ i, fires i → (∀ j, j ≠ i → ¬fires j) → ¬ready →
            t.link.slots.state =
              placedOver u.link.slots.state
                ⟨.paused, .paused,
                  .resumeRefused i u.clock.st
                    ([Port.vision, .sound, .cab].filter
                      (fun p => (u.port p).cfg.essential && decide ((u.port p).st ≠ .running))),
                  u.ctrl.reason, u.ctrl.f, u.clock.current⟩) ∧
          ((∀ i, ¬fires i) → t.link.slots.state = u.link.slots.state))

/-- SET_TRIGGERS in any hub state: a type code above 5 in a line the mask names refuses it with BAD_VALUE;
otherwise the masked lines take their types, and the reply carries all 16 and the previous word. SET_RESUME in
any hub state: a mask bit beyond the four conditions, or a masked condition whose line is above 15 or whose
type code is above 5, refuses it with BAD_VALUE; otherwise each masked condition takes its line and type, and
its flag: in PAUSED that of the snapshot against the previous word, no in any other state. Nothing else
changes. (That the refused replies carry the result code alone is log 20, DEDUCED.) -/
def Obligations.TriggersAndConditionsAreWritten : Prop :=
  (∀ (dt : Nat) (tag : Byte) (q : TriggersRequest) (s : State), s.canAnswer dt →
     let u := s.taken dt
     ((∃ i : Fin 16, q.mask.getLsbD i.val = true ∧ 5 < (q.types[i]).toNat) →
       exec (.setTriggers dt tag q) s = .next (u.replied 0x8C tag .badValue .bare)) ∧
     ((∀ i : Fin 16, q.mask.getLsbD i.val = true → (q.types[i]).toNat ≤ 5) →
       ∃ types : Vector TriggerType 16,
         (∀ i : Fin 16,
           types[i] =
             if q.mask.getLsbD i.val then (triggerTypeOf q.types[i]).getD .none else u.cab.triggers[i]) ∧
         exec (.setTriggers dt tag q) s =
           .next
             ((u.withCab { u.cab with triggers := types }).replied 0x8C tag .ok
               (.triggers types u.cab.previous)))) ∧
  ∀ (dt : Nat) (tag : Byte) (q : ResumeRequest) (s : State), s.canAnswer dt →
    let u := s.taken dt
    let bad (i : Fin 4) : Prop :=
      q.mask.getLsbD i.val = true ∧ (15 < (q.conditions[i]).1.toNat ∨ 5 < (q.conditions[i]).2.toNat)
    (16 ≤ q.mask.toNat ∨ (∃ i, bad i) →
      exec (.setResume dt tag q) s = .next (u.replied 0x8D tag .badValue .bare)) ∧
    (q.mask.toNat < 16 → (∀ i, ¬bad i) →
      ∃ conditions : Vector ResumeCondition 4,
        (∀ i : Fin 4,
          if q.mask.getLsbD i.val then
            (conditions[i]).line.val = (q.conditions[i]).1.toNat ∧
              some (conditions[i]).type = triggerTypeOf (q.conditions[i]).2 ∧
              (conditions[i]).held =
                (decide (u.ctrl.st = .paused) &&
                  match (conditions[i]).type with
                  | .high => u.cab.previous.getLsbD (conditions[i]).line.val
                  | .low => !u.cab.previous.getLsbD (conditions[i]).line.val
                  | _ => false)
          else conditions[i] = u.cab.conditions[i]) ∧
        exec (.setResume dt tag q) s =
          .next
            ((u.withCab { u.cab with conditions := conditions }).replied 0x8D tag .ok
              (.conditions conditions)))

/-- STAMP_NOW: refused with WRONG_STATE in SETUP. In every other state a stamp of the record's completion is
written at the tail, with the gap mark when one is pending, which it clears; with 32 records held it is
discarded and the gap is pending. The reply carries frame and offset, whether it was stored, and the
occupancy. An empty FIFO places a STAMPS notice. The place of an instant: the newest ring entry whose start
does not lie after it, with the distance from that start; before every start, the oldest entry with offset
0. (That the refused reply carries the result code alone is log 20, DEDUCED.) -/
def Obligations.StampNowMarksTheInstant : Prop :=
  (∀ (dt : Nat) (tag : Byte) (s : State), s.canAnswer dt →
     let u := s.taken dt
     let place := u.clock.locate u.now
     let stamp : Stamp := ⟨.linkRequest, .request, place.1, place.2, u.cab.gapPending⟩
     (u.ctrl.st = .setup →
       exec (.stampNow dt tag) s = .next (u.replied 0x93 tag .wrongState .bare)) ∧
     (u.ctrl.st ≠ .setup → 32 ≤ u.cab.fifo.length →
       exec (.stampNow dt tag) s =
         .next
           ((u.withCab { u.cab with gapPending := true }).replied 0x93 tag .ok
             (.stampNow place.1 place.2 false u.cab.fifo.length))) ∧
     (u.ctrl.st ≠ .setup → u.cab.fifo.length < 32 →
       ∃ t, exec (.stampNow dt tag) s = .next t ∧
         t = (u.withCab { u.cab with fifo := u.cab.fifo ++ [stamp], gapPending := false }).withLink t.link ∧
         t.link.replies =
           u.link.replies ++
             [⟨0x93, tag, .ok, .stampNow place.1 place.2 true (u.cab.fifo.length + 1)⟩] ∧
         (u.link.tx ≠ .idle →
           t.link.slots.stamps =
             if u.cab.fifo = [] then placedOver u.link.slots.stamps ⟨stamp, 1, u.clock.current⟩
             else u.link.slots.stamps))) ∧
  ∀ (c : Clock) (newer older : List RingEntry) (e : RingEntry) (t : Instant),
    c.ring = newer ++ e :: older →
      ((∀ x ∈ newer, diff t x.start < 0) → 0 ≤ diff t e.start →
        c.locate t = (e.frame, (diff t e.start).toNat)) ∧
      (older = [] → (∀ x ∈ c.ring, diff t x.start < 0) → c.locate t = (e.frame, 0))

/-- READ_STAMPS and READ_OUTCOMES in every hub state: a count outside 1 .. 8 is refused with BAD_VALUE.
READ_STAMPS takes up to that count of records from the head of the FIFO and returns them oldest first, with
the number left and gap pending, which does not change. READ_OUTCOMES removes the DONE entries nearest the
head, up to the count, and returns them in queue order with the numbers of DONE entries left and of ACTIVE
entries; ACTIVE entries stay, in their order. (That the refused replies carry the result code alone is log 20,
DEDUCED.) -/
def Obligations.ReadsCollectTheOldest : Prop :=
  (∀ (dt : Nat) (tag count : Byte) (s : State), s.canAnswer dt →
     let u := s.taken dt
     exec (.readStamps dt tag count) s =
       .next
         (if 1 ≤ count.toNat ∧ count.toNat ≤ 8 then
           (u.withCab { u.cab with fifo := u.cab.fifo.drop count.toNat }).replied 0x94 tag .ok
             (.stamps (u.cab.fifo.take count.toNat) (u.cab.fifo.length - count.toNat) u.cab.gapPending)
         else u.replied 0x94 tag .badValue .bare)) ∧
  ∀ (dt : Nat) (tag count : Byte) (s : State), s.canAnswer dt →
    let u := s.taken dt
    let isDone (e : Entry) : Bool := decide (e.st = .done)
    let reported (e : Entry) : EntryReport :=
      ⟨e.tag, e.kind, e.frame, e.slipUsed,
        e.dests.map (fun d => ⟨d.port, d.outcome, d.amplitudeSent, d.starts⟩)⟩
    (count.toNat = 0 ∨ 8 < count.toNat →
      exec (.readOutcomes dt tag count) s = .next (u.replied 0x92 tag .badValue .bare)) ∧
    (1 ≤ count.toNat → count.toNat ≤ 8 →
      ∃ queue, queue.filter isDone = (u.queue.filter isDone).drop count.toNat ∧
        queue.filter (fun e => !isDone e) = u.queue.filter (fun e => !isDone e) ∧
        queue.Sublist u.queue ∧
        exec (.readOutcomes dt tag count) s =
          .next
            ((u.withQueue queue).replied 0x92 tag .ok
              (.outcomes (((u.queue.filter isDone).take count.toNat).map reported)
                (queue.filter isDone).length (queue.filter (fun e => !isDone e)).length)))

/-! ### Host link -/

/-- UNKNOWN_KIND: a good record whose KIND names no request is answered UNKNOWN_KIND with the received KIND
and the reply mark, and one whose LEN does not fit its request is answered BAD_LENGTH with that LEN. Nothing
else changes. (That the row UNKNOWN_KIND acts by the KIND it carries, a request's KIND too, is log 27, the
model's own.) -/
def Obligations.UnknownKindIsAnswered : Prop :=
  ∀ (dt : Nat) (kind tag : Byte) (payload : List Byte) (s : State), s.canAnswer dt →
    let u := s.taken dt
    (kind.toNat = 0 ∨ 0x15 < kind.toNat →
      exec (.unknownKind dt kind tag payload) s =
        .next (u.replied (kind ||| 0x80) tag .unknownKind .bare)) ∧
    ∀ n, requestLength kind = some n → payload.length ≠ n →
      exec (.unknownKind dt kind tag payload) s =
        .next (u.replied (kind ||| 0x80) tag .badLength (.badLength payload.length))

/-- BYTE_RECEIVED takes one byte by the framer's state: HUNT ignores all but a sync byte without framing
error, which begins a candidate; in LEN a byte of 0 to 250 is stored, in KIND, TAG, PAYLOAD and CRC_HIGH any
byte is, and the state goes on, to PAYLOAD only while payload bytes are to come; in CRC_LOW a record whose CRC
is right is taken, with the framer in HUNT.

A candidate that fails (a framing error outside HUNT, a LEN byte of 251 to 255, a wrong CRC; the rows
BYTE_RECEIVED and CANDIDATE_FAILS alike) is counted, and the bytes after its sync byte, the one that fails
included, are taken again: without a sync byte among them the framer is in HUNT; a whole good record among
them is taken; a sync byte that comes last opens the next candidate.

GAP: the candidate fails, is counted, and its bytes are taken again in the same way, but a candidate still
incomplete fails in its turn: the framer ends in HUNT whatever the buffer held. In HUNT, and once a start bit
has begun, there is no gap. (Where a byte's start bit begins is log 13; what the row CANDIDATE_FAILS does with
a byte that makes none fail is log 27.) -/
def Obligations.BytesAndGapsMoveTheFramer : Prop :=
  let noSync (bytes : List RxByte) : Prop := ∀ x ∈ bytes, x.data ≠ 0xC3 ∨ x.framingError = true
  let clean (bytes : List Byte) : List RxByte := bytes.map (fun b => ⟨b, false⟩)
  (∀ (dt : Nat) (data : Byte) (framingError : Bool) (s : State), s.inReset = false →
    let u := s.elapseByte dt
    let fr := u.link.framer
    let now := u.now
    let b : RxByte := ⟨data, framingError⟩
    let stored (st : FramerState) : Framer := ⟨st, fr.buffer ++ [b], now, false⟩
    let hunting : Framer := ⟨.hunt, [], now, false⟩
    let moves (framer : Framer) : Prop :=
      ∃ t, exec (.byteReceived dt data framingError) s = .next t ∧ t = u.withLink t.link ∧
        t.link.framer = framer ∧ t.link.linkErrors = u.link.linkErrors ∧
        t.link.replies = u.link.replies
    let whole (kind tag : Byte) (payload : List Byte) : Prop :=
      payload.length ≤ 250 ∧ (fr.buffer ++ [b]).map (·.data) = envelope kind tag payload
    let fails : Prop :=
      fr.st ≠ .hunt ∧
        (framingError = true ∨ (fr.st = .len ∧ 251 ≤ data.toNat) ∨
          (fr.st = .crcLow ∧ ∃ sync len rest, fr.buffer = sync :: len :: rest ∧
            fr.buffer.length = len.data.toNat + 5 ∧
            ∀ kind tag payload,
              (fr.buffer ++ [b]).map (·.data) ≠ sync.data :: (envelope kind tag payload).drop 1))
    (fr.st = .hunt → data ≠ 0xC3 ∨ framingError = true →
      moves { fr with lastAt := now, startBit := false }) ∧
    (fr.st = .hunt → data = 0xC3 → framingError = false → moves ⟨.len, [⟨0xC3, false⟩], now, false⟩) ∧
    (fr.st = .len → framingError = false → data.toNat ≤ 250 → moves (stored .kind)) ∧
    (fr.st = .kind → framingError = false → moves (stored .tag)) ∧
    (∀ sync len rest, fr.st = .tag → framingError = false → fr.buffer = sync :: len :: rest →
      moves (stored (if 0 < len.data.toNat then .payload else .crcHigh))) ∧
    (∀ sync len rest, fr.st = .payload → framingError = false → fr.buffer = sync :: len :: rest →
      fr.buffer.length < len.data.toNat + 4 →
        moves (stored (if fr.buffer.length + 1 = len.data.toNat + 4 then .crcHigh else .payload))) ∧
    (fr.st = .crcHigh → framingError = false → moves (stored .crcLow)) ∧
    (∀ kind tag payload, fr.st = .crcLow → framingError = false → whole kind tag payload →
      exec (.byteReceived dt data framingError) s =
        .next ((u.withFramer hunting).takeRecord kind tag payload).kick) ∧
    (fails → ∀ c ∈ [Instr.byteReceived dt data framingError, .candidateFails dt data framingError],
      let again := (fr.buffer ++ [b]).drop 1
      let counted := (u.withFramer hunting).countLinkError
      (noSync again →
        ∃ t, exec c s = .next t ∧ t = u.withLink t.link ∧ t.link.framer = hunting ∧
          t.link.linkErrors = min 65535 (u.link.linkErrors + 1)) ∧
      (∀ before after kind tag payload, again = before ++ clean (envelope kind tag payload) ++ after →
        noSync before → noSync after → payload.length ≤ 250 →
          exec c s = .next (counted.takeRecord kind tag payload).kick) ∧
      (∀ before, again = before ++ [⟨0xC3, false⟩] → noSync before →
        ∃ t, exec c s = .next t ∧ t = u.withLink t.link ∧
          t.link.framer = ⟨.len, [⟨0xC3, false⟩], now, false⟩ ∧
          t.link.linkErrors = min 65535 (u.link.linkErrors + 1)))) ∧
  (∀ (s : State) (at_ : Instant), s.comes .gap at_ →
    let fr := s.link.framer
    let again := fr.buffer.drop 1
    let u := s.atInstant at_
    let hunting : Framer := { fr with st := .hunt, buffer := [] }
    ∃ t, exec .gap s = .next t ∧ t.link.framer.st = .hunt ∧
      (noSync again →
        t = u.withLink t.link ∧ t.link.framer = hunting ∧
          t.link.linkErrors = min 65535 (s.link.linkErrors + 1)) ∧
      (∀ before after kind tag payload, again = before ++ clean (envelope kind tag payload) ++ after →
        noSync before → noSync after → payload.length ≤ 250 →
          t = ((((u.withFramer hunting).countLinkError).takeRecord kind tag payload).kick)) ∧
      (∀ before after, again = before ++ ⟨0xC3, false⟩ :: clean after → noSync before →
        noSync (clean after) →
        (∀ len, after.head? = some len → len.toNat ≤ 250 ∧ after.length < len.toNat + 5) →
          t = u.withLink t.link ∧ t.link.framer = hunting ∧
            t.link.linkErrors = min 65535 (s.link.linkErrors + 2))) ∧
  ∀ s : State, s.link.framer.st = .hunt ∨ s.link.framer.startBit = true → exec .gap s = .next s

/-- RECORD_SENT: a reply that has been sent leaves the queue. The next record is the FRAME_START in its slot,
else the oldest reply left, else the notice of the first slot that holds one in the order STATE, CLOCK, PORT,
LATE, OUTCOMES, STAMPS, which leaves its slot; it starts at once, and with none of these the transmitter is
IDLE. A record whose layout the manual gives ends when its bytes have been sent back to back at the line rate:
FRAME_START has 12 bytes, a reply of the result code alone 7 (in whole microseconds, log 14). The end of
another record comes dt microseconds after the last command from outside (logs 1 and 8, the model's own). -/
def Obligations.TransmitterChoosesByPrecedence : Prop :=
  let sends (u t : State) : Prop :=
    let l := u.link
    let left := if l.tx = .reply then l.replies.drop 1 else l.replies
    let starts (tx : Transmitter) : Prop := t.link.tx = tx ∧ t.link.txStart = u.now
    let notice (n : Notice) (merge : Nat) (slots : NoticeSlots) : Prop :=
      starts (.notice n merge) ∧ t.link.slots = slots
    t = u.withLink t.link ∧ t.link.replies = left ∧ t.link.rate = l.rate ∧
      t.link.linkErrors = l.linkErrors ∧ t.link.overruns = l.overruns ∧ t.link.framer = l.framer ∧
      (∀ r, l.frameStart = some r →
        starts (.frameStart r) ∧ t.link.frameStart = none ∧ t.link.slots = l.slots) ∧
      (l.frameStart = none →
        t.link.frameStart = none ∧
        (left ≠ [] → starts .reply ∧ t.link.slots = l.slots) ∧
        (left = [] →
          (∀ h, l.slots.state = some h →
            notice (.state h.content) h.merge { l.slots with state := none }) ∧
          (∀ h, l.slots.state = none → l.slots.clock = some h →
            notice (.clock h.content) h.merge { l.slots with clock := none }) ∧
          (∀ h, l.slots.state = none → l.slots.clock = none → l.slots.port = some h →
            notice (.port h.content) h.merge { l.slots with port := none }) ∧
          (∀ h, l.slots.state = none → l.slots.clock = none → l.slots.port = none →
            l.slots.late = some h →
              notice (.late h.content) h.merge { l.slots with late := none }) ∧
          (∀ h, l.slots.state = none → l.slots.clock = none → l.slots.port = none →
            l.slots.late = none → l.slots.outcomes = some h →
              notice (.outcomes h.content) h.merge { l.slots with outcomes := none }) ∧
          (∀ h, l.slots.state = none → l.slots.clock = none → l.slots.port = none →
            l.slots.late = none → l.slots.outcomes = none → l.slots.stamps = some h →
              notice (.stamps h.content) h.merge { l.slots with stamps := none }) ∧
          (l.slots = ⟨none, none, none, none, none, none⟩ →
            t.link.tx = .idle ∧ t.link.slots = l.slots)))
  (∀ (dt : Nat) (s : State) (at_ : Instant), s.comes .recordSent at_ →
    ∃ t, exec (.recordSent dt) s = .next t ∧ sends (s.atInstant at_) t) ∧
  (∀ (dt : Nat) (s : State), s.inReset = false → s.link.lengthOnLine = none →
    (s.elapseOwn dt).link.lengthOnLine = none → (s.elapseOwn dt).link.tx ≠ .idle →
      ∃ t, exec (.recordSent dt) s = .next t ∧ sends (s.elapseOwn dt) t) ∧
  ∀ (s : State) (n : Nat),
    ((∃ r, s.link.tx = .frameStart r ∧ n = 12) ∨
      (∃ r rest, s.link.tx = .reply ∧ s.link.replies = r :: rest ∧ r.body = .bare ∧ n = 7)) →
      s.instantOf .recordSent =
        some
          (s.link.txStart +
            BitVec.ofNat 32
              (match s.link.rate with
              | .one => 10 * n
              | .two => 5 * n
              | .four => (5 * n + 1) / 2))

/-! ### Packets -/

/-- The beats of a packet of width 1, 2 or 4: two header beats, the payload beats of w words each and one
trailer beat. The payload is the values in send order, filled up with 0, and the trailer is the sum of all
words before it. Header word 1 carries the kind in bits 15 .. 13, the degraded flag in bit 12, the ramping
flag in bit 11, and the first slot in bits 10 .. 6 with the count in bits 5 .. 0, or in an ECHO packet the
echo number in bits 7 .. 0 with 0 in bits 10 .. 8; header word 2 is the frame number. -/
def Obligations.PacketsCarryTheirValuesAndSum : Prop :=
  (∀ (w : Nat) (k : Packet), w = 1 ∨ w = 2 ∨ w = 4 →
    (k.beats w).length = k.beatCount w ∧
    k.beatCount w = 3 + (k.values.length + w - 1) / w ∧
    k.beats w = [k.header1] :: [k.header2] :: (k.payloadBeats w ++ [[k.trailer w]]) ∧
    (∀ beat ∈ k.payloadBeats w, beat.length = w) ∧
    (∃ n, (k.payloadBeats w).flatten = k.values ++ List.replicate n 0 ∧ n < w) ∧
    k.trailer w = k.header1 + k.header2 + k.values.sum) ∧
  ∀ k : Packet, k.firstSlot ≤ 31 → k.count ≤ 32 →
    let bits (low n : Nat) : Nat := (k.header1.extractLsb' low n).toNat
    bits 13 3 =
      (match k.kind with | .cue => 1 | .continuation => 2 | .event => 3 | .neutral => 4 | .echo => 5) ∧
    k.header1.getLsbD 12 = k.degraded ∧ k.header1.getLsbD 11 = k.ramping ∧
    (k.kind ≠ .echo → bits 6 5 = k.firstSlot ∧ bits 0 6 = k.count) ∧
    (k.kind = .echo → bits 8 3 = 0 ∧ bits 0 8 = k.echoNumber.toNat) ∧
    k.header2 = k.frame

/-! ### Power and reset -/

/-- POWER_ON puts every block at its reset values, with the straps' line rate, and the STATE notice of cause
POWER_ON is on the line. The levels the boards drive on WAIT and ABORT are theirs, and the commands that wait
are kept (the model's own, log 11). -/
def Obligations.PowerOnGivesResetValues : Prop :=
  ∀ (spd1 spd0 : Bool) (s : State), ∃ t, exec (.powerOn spd1 spd0) s = .next t ∧
    t.clock =
      { cueTime := 0, st := .free, current := 0, frameEnd := 2000, captured := false, trim := 0,
        lastE := 0, goodCount := 0, missCount := 0, holdoverCount := 0, renumber := false,
        ring := [⟨0, 0⟩], set := ⟨.fsync, 2000, 0, 20, 50, 8, 3, 100⟩ } ∧
    t.ctrl = ⟨.setup, .none, 0, 100, 100⟩ ∧
    (∀ i : Fin 48, t.channels[i] = ⟨.empty, 0, 10, .hold, 50⟩) ∧ t.discards = 0 ∧
    (∀ i : Fin 64,
      t.routes[i] = ⟨.none, none, 0, 4096, 0, 0x8000, 0x7FFF, 0, 0, false, 0⟩) ∧
    (∀ g : Fin 4, t.gens[g] = ⟨.off, 10000, 5000, 0, 0, 0xFF, .idle, none, .absent⟩) ∧
    (∀ p,
      (t.port p).st = .off ∧
        (t.port p).cfg =
          ⟨true, decide (p = .cab), (match p with | .vision => 12 | .sound => 20 | .cab => 32), 1, 2, 0,
            .declared, 0, 200, 50, 4⟩ ∧
        (t.port p).echo = ⟨0, none, 0, 0, none, none, 0, 0⟩ ∧ (t.port p).inFlight = none ∧
        (t.port p).conts = [] ∧ (t.port p).neutral = none ∧ (t.port p).echoDue = none ∧
        (t.port p).rxErrors = 0 ∧ (t.port p).inbound = none ∧ (t.port p).openedAt = none ∧
        (t.port p).window = [] ∧ (t.port p).sched = none ∧
        (t.port p).latCue = (match p with | .vision => 30 | .sound => 46 | .cab => 70) ∧
        (t.port p).latEvent = 14 ∧ (t.port p).skipCount = 0 ∧ (t.port p).partialCount = 0 ∧
        (t.port p).wait = (s.port p).wait ∧ (t.port p).abort = (s.port p).abort) ∧
    t.queue = [] ∧ t.cab.previous = 0 ∧ (∀ n : Fin 16, t.cab.triggers[n] = .none) ∧
    (∀ i : Fin 4, t.cab.conditions[i] = ⟨0, .none, false⟩) ∧ t.cab.fifo = [] ∧
    t.cab.gapPending = false ∧
    t.link.rate =
      (match spd1, spd0 with | false, true => .two | true, false => .four | _, _ => .one) ∧
    t.link.framer.st = .hunt ∧ t.link.framer.buffer = [] ∧ t.link.replies = [] ∧
    t.link.slots = ⟨none, none, none, none, none, none⟩ ∧ t.link.frameStart = none ∧
    t.link.tx = .notice (.state ⟨.setup, .setup, .powerOn, .none, 0, 0⟩) 0 ∧
    t.link.txStart = 0 ∧ t.link.linkErrors = 0 ∧ t.link.overruns = 0 ∧ t.inReset = false ∧
    t.pending = s.pending

/-- RESET asserted: every packet in flight is cut, the transmitter stops, the framer is in HUNT with its
buffer empty, and nothing else moves. While RESET is asserted the hub takes nothing but its release: only the
levels that the boards drive on WAIT and ABORT move (the model's own choice, log 10). -/
def Obligations.ResetCutsAndHolds : Prop :=
  (∀ (dt : Nat) (s : State), s.inReset = false →
     let u := s.elapse dt
     ∃ t, exec (.reset dt) s = .next t ∧ t.inReset = true ∧
       (∀ p, t.port p = { u.port p with inFlight := none }) ∧
       t.link =
         { u.link with framer := { u.link.framer with st := .hunt, buffer := [] }, tx := .idle } ∧
       t.clock = u.clock ∧ t.ctrl = u.ctrl ∧ t.channels = u.channels ∧ t.routes = u.routes ∧
       t.gens = u.gens ∧ t.queue = u.queue ∧ t.cab = u.cab ∧ t.discards = u.discards) ∧
  ∀ (c : Instr) (s : State), s.inReset = true →
    match c with
    | .powerOn _ _ => ∃ t, exec c s = .next t ∧ t.inReset = false
    | .waitAssert _ p => exec c s = .next (s.withPort p { s.port p with wait := true })
    | .waitRelease _ p => exec c s = .next (s.withPort p { s.port p with wait := false })
    | .abortAssert _ p => exec c s = .next (s.withPort p { s.port p with abort := true })
    | .abortRelease _ p => exec c s = .next (s.withPort p { s.port p with abort := false })
    | _ => exec c s = .next s

/-! ### Invariants of every step -/

/-- f lies within its bounds for the hub state, and the halt reason is there exactly in HALTED, after every
step from a state where both hold. -/
def Obligations.StepKeepsRampAndReason : Prop :=
  ∀ s t : State, s.ctrl.rampFits → s.ctrl.reasonFits → step s = .next t →
    t.ctrl.rampFits ∧ t.ctrl.reasonFits

/-- In RAMP_IN, LIVE, RAMP_OUT and PAUSED the clock is LOCKED or HOLDOVER, and it is FREE exactly in SETUP,
after every step from a state where that holds. -/
def Obligations.StepKeepsTheClockFollowed : Prop :=
  ∀ s t : State, s.clockFits → step s = .next t → t.clockFits

/-- The ring holds 1 to 32 entries with the current frame newest, and the clock settings lie in their ranges,
after every step from a state where both hold. -/
def Obligations.StepKeepsRingAndSettings : Prop :=
  ∀ s t : State, s.clock.ringFits → s.clock.settingsFit → step s = .next t →
    t.clock.ringFits ∧ t.clock.settingsFit

/-- The reply queue holds at most 8 replies, the event queue at most 24 entries with no tag twice, and the
stamp FIFO at most 32 records, after every step from a state where that holds. -/
def Obligations.StepKeepsTheStoresInBounds : Prop :=
  ∀ s t : State, s.storesFit → s.tagsFit → step s = .next t → t.storesFit ∧ t.tagsFit

/-- An entry of the event queue is ACTIVE exactly while one of its destinations is PENDING, after every step
from a state where that holds. -/
def Obligations.StepKeepsEntriesSettled : Prop :=
  ∀ s t : State, (∀ e ∈ s.queue, e.stateFits) → step s = .next t → ∀ e ∈ t.queue, e.stateFits

/-- No two routes in use name the same port and slot, after every step from a state where that holds. -/
def Obligations.StepKeepsClaimsApart : Prop :=
  ∀ s t : State, s.claimsFit → step s = .next t → t.claimsFit

/-- In SETUP every port is OFF; a port in OFF sends nothing and has nothing to send; a scheduler is ACTIVE
exactly while its port is RUNNING and the hub is in ARMED, RAMP_IN, LIVE, RAMP_OUT or PAUSED; and a
destination of an ACTIVE entry is due or on the line only on a RUNNING port, with no entry in SETUP: after
every step from a state where all four hold. -/
def Obligations.StepKeepsPortsInTheirStates : Prop :=
  ∀ s t : State, s.portsFit → step s = .next t → t.portsFit

/-- All of these invariants hold after reset. -/
def Obligations.ResetMeetsTheInvariants : Prop :=
  Sys2Proof.core.reset.Inv
end

