-- ==== Sys2Proof/Decode.lean ====
section
/-! DEFINITION. Commands from words: spec/opcode_table.json gives no row any bits (log 23). -/

namespace Sys2Proof

/-- The command that a word spells by the table's bits: no row has bits, so none. -/
def decodeTableWord (_nbits _w : Nat) : Option Instr := none

end Sys2Proof
end

