-- ==== Sys2Proof/Laws/State.lean ====
section
/-! SUPPORT. One lemma for each field after each update of State, so that no proof unfolds an update. -/

namespace Sys2Proof.Machine

variable (s : State)

@[simp] theorem State.withClock_clock (c : Clock) : (s.withClock c).clock = c := rfl
@[simp] theorem State.withClock_ctrl (c : Clock) : (s.withClock c).ctrl = s.ctrl := rfl
@[simp] theorem State.withClock_channels (c : Clock) : (s.withClock c).channels = s.channels := rfl
@[simp] theorem State.withClock_discards (c : Clock) : (s.withClock c).discards = s.discards := rfl
@[simp] theorem State.withClock_routes (c : Clock) : (s.withClock c).routes = s.routes := rfl
@[simp] theorem State.withClock_gens (c : Clock) : (s.withClock c).gens = s.gens := rfl
@[simp] theorem State.withClock_ports (c : Clock) : (s.withClock c).ports = s.ports := rfl
@[simp] theorem State.withClock_queue (c : Clock) : (s.withClock c).queue = s.queue := rfl
@[simp] theorem State.withClock_cab (c : Clock) : (s.withClock c).cab = s.cab := rfl
@[simp] theorem State.withClock_link (c : Clock) : (s.withClock c).link = s.link := rfl
@[simp] theorem State.withClock_inReset (c : Clock) : (s.withClock c).inReset = s.inReset := rfl
@[simp] theorem State.withClock_choices (c : Clock) : (s.withClock c).choices = s.choices := rfl
@[simp] theorem State.withClock_pending (c : Clock) : (s.withClock c).pending = s.pending := rfl
@[simp] theorem State.withClock_ownTime (c : Clock) : (s.withClock c).ownTime = s.ownTime := rfl
@[simp] theorem State.withClock_now (c : Clock) : (s.withClock c).now = c.cueTime := rfl
@[simp] theorem State.withClock_port (c : Clock) (p : Port) : (s.withClock c).port p = s.port p := rfl

@[simp] theorem State.withCtrl_clock (c : Controller) : (s.withCtrl c).clock = s.clock := rfl
@[simp] theorem State.withCtrl_ctrl (c : Controller) : (s.withCtrl c).ctrl = c := rfl
@[simp] theorem State.withCtrl_channels (c : Controller) : (s.withCtrl c).channels = s.channels := rfl
@[simp] theorem State.withCtrl_discards (c : Controller) : (s.withCtrl c).discards = s.discards := rfl
@[simp] theorem State.withCtrl_routes (c : Controller) : (s.withCtrl c).routes = s.routes := rfl
@[simp] theorem State.withCtrl_gens (c : Controller) : (s.withCtrl c).gens = s.gens := rfl
@[simp] theorem State.withCtrl_ports (c : Controller) : (s.withCtrl c).ports = s.ports := rfl
@[simp] theorem State.withCtrl_queue (c : Controller) : (s.withCtrl c).queue = s.queue := rfl
@[simp] theorem State.withCtrl_cab (c : Controller) : (s.withCtrl c).cab = s.cab := rfl
@[simp] theorem State.withCtrl_link (c : Controller) : (s.withCtrl c).link = s.link := rfl
@[simp] theorem State.withCtrl_inReset (c : Controller) : (s.withCtrl c).inReset = s.inReset := rfl
@[simp] theorem State.withCtrl_choices (c : Controller) : (s.withCtrl c).choices = s.choices := rfl
@[simp] theorem State.withCtrl_pending (c : Controller) : (s.withCtrl c).pending = s.pending := rfl
@[simp] theorem State.withCtrl_ownTime (c : Controller) : (s.withCtrl c).ownTime = s.ownTime := rfl
@[simp] theorem State.withCtrl_now (c : Controller) : (s.withCtrl c).now = s.now := rfl
@[simp] theorem State.withCtrl_port (c : Controller) (p : Port) : (s.withCtrl c).port p = s.port p := rfl

@[simp] theorem State.withChannels_clock (v : Vector Channel 48) : (s.withChannels v).clock = s.clock := rfl
@[simp] theorem State.withChannels_ctrl (v : Vector Channel 48) : (s.withChannels v).ctrl = s.ctrl := rfl
@[simp] theorem State.withChannels_channels (v : Vector Channel 48) : (s.withChannels v).channels = v := rfl
@[simp] theorem State.withChannels_discards (v : Vector Channel 48) : (s.withChannels v).discards = s.discards := rfl
@[simp] theorem State.withChannels_routes (v : Vector Channel 48) : (s.withChannels v).routes = s.routes := rfl
@[simp] theorem State.withChannels_gens (v : Vector Channel 48) : (s.withChannels v).gens = s.gens := rfl
@[simp] theorem State.withChannels_ports (v : Vector Channel 48) : (s.withChannels v).ports = s.ports := rfl
@[simp] theorem State.withChannels_queue (v : Vector Channel 48) : (s.withChannels v).queue = s.queue := rfl
@[simp] theorem State.withChannels_cab (v : Vector Channel 48) : (s.withChannels v).cab = s.cab := rfl
@[simp] theorem State.withChannels_link (v : Vector Channel 48) : (s.withChannels v).link = s.link := rfl
@[simp] theorem State.withChannels_inReset (v : Vector Channel 48) : (s.withChannels v).inReset = s.inReset := rfl
@[simp] theorem State.withChannels_choices (v : Vector Channel 48) : (s.withChannels v).choices = s.choices := rfl
@[simp] theorem State.withChannels_pending (v : Vector Channel 48) : (s.withChannels v).pending = s.pending := rfl
@[simp] theorem State.withChannels_ownTime (v : Vector Channel 48) : (s.withChannels v).ownTime = s.ownTime := rfl
@[simp] theorem State.withChannels_now (v : Vector Channel 48) : (s.withChannels v).now = s.now := rfl
@[simp] theorem State.withChannels_port (v : Vector Channel 48) (p : Port) : (s.withChannels v).port p = s.port p := rfl

@[simp] theorem State.withDiscards_clock (n : Nat) : (s.withDiscards n).clock = s.clock := rfl
@[simp] theorem State.withDiscards_ctrl (n : Nat) : (s.withDiscards n).ctrl = s.ctrl := rfl
@[simp] theorem State.withDiscards_channels (n : Nat) : (s.withDiscards n).channels = s.channels := rfl
@[simp] theorem State.withDiscards_discards (n : Nat) : (s.withDiscards n).discards = n := rfl
@[simp] theorem State.withDiscards_routes (n : Nat) : (s.withDiscards n).routes = s.routes := rfl
@[simp] theorem State.withDiscards_gens (n : Nat) : (s.withDiscards n).gens = s.gens := rfl
@[simp] theorem State.withDiscards_ports (n : Nat) : (s.withDiscards n).ports = s.ports := rfl
@[simp] theorem State.withDiscards_queue (n : Nat) : (s.withDiscards n).queue = s.queue := rfl
@[simp] theorem State.withDiscards_cab (n : Nat) : (s.withDiscards n).cab = s.cab := rfl
@[simp] theorem State.withDiscards_link (n : Nat) : (s.withDiscards n).link = s.link := rfl
@[simp] theorem State.withDiscards_inReset (n : Nat) : (s.withDiscards n).inReset = s.inReset := rfl
@[simp] theorem State.withDiscards_choices (n : Nat) : (s.withDiscards n).choices = s.choices := rfl
@[simp] theorem State.withDiscards_pending (n : Nat) : (s.withDiscards n).pending = s.pending := rfl
@[simp] theorem State.withDiscards_ownTime (n : Nat) : (s.withDiscards n).ownTime = s.ownTime := rfl
@[simp] theorem State.withDiscards_now (n : Nat) : (s.withDiscards n).now = s.now := rfl
@[simp] theorem State.withDiscards_port (n : Nat) (p : Port) : (s.withDiscards n).port p = s.port p := rfl

@[simp] theorem State.withRoutes_clock (v : Vector Route 64) : (s.withRoutes v).clock = s.clock := rfl
@[simp] theorem State.withRoutes_ctrl (v : Vector Route 64) : (s.withRoutes v).ctrl = s.ctrl := rfl
@[simp] theorem State.withRoutes_channels (v : Vector Route 64) : (s.withRoutes v).channels = s.channels := rfl
@[simp] theorem State.withRoutes_discards (v : Vector Route 64) : (s.withRoutes v).discards = s.discards := rfl
@[simp] theorem State.withRoutes_routes (v : Vector Route 64) : (s.withRoutes v).routes = v := rfl
@[simp] theorem State.withRoutes_gens (v : Vector Route 64) : (s.withRoutes v).gens = s.gens := rfl
@[simp] theorem State.withRoutes_ports (v : Vector Route 64) : (s.withRoutes v).ports = s.ports := rfl
@[simp] theorem State.withRoutes_queue (v : Vector Route 64) : (s.withRoutes v).queue = s.queue := rfl
@[simp] theorem State.withRoutes_cab (v : Vector Route 64) : (s.withRoutes v).cab = s.cab := rfl
@[simp] theorem State.withRoutes_link (v : Vector Route 64) : (s.withRoutes v).link = s.link := rfl
@[simp] theorem State.withRoutes_inReset (v : Vector Route 64) : (s.withRoutes v).inReset = s.inReset := rfl
@[simp] theorem State.withRoutes_choices (v : Vector Route 64) : (s.withRoutes v).choices = s.choices := rfl
@[simp] theorem State.withRoutes_pending (v : Vector Route 64) : (s.withRoutes v).pending = s.pending := rfl
@[simp] theorem State.withRoutes_ownTime (v : Vector Route 64) : (s.withRoutes v).ownTime = s.ownTime := rfl
@[simp] theorem State.withRoutes_now (v : Vector Route 64) : (s.withRoutes v).now = s.now := rfl
@[simp] theorem State.withRoutes_port (v : Vector Route 64) (p : Port) : (s.withRoutes v).port p = s.port p := rfl

@[simp] theorem State.withGens_clock (v : Vector Generator 4) : (s.withGens v).clock = s.clock := rfl
@[simp] theorem State.withGens_ctrl (v : Vector Generator 4) : (s.withGens v).ctrl = s.ctrl := rfl
@[simp] theorem State.withGens_channels (v : Vector Generator 4) : (s.withGens v).channels = s.channels := rfl
@[simp] theorem State.withGens_discards (v : Vector Generator 4) : (s.withGens v).discards = s.discards := rfl
@[simp] theorem State.withGens_routes (v : Vector Generator 4) : (s.withGens v).routes = s.routes := rfl
@[simp] theorem State.withGens_gens (v : Vector Generator 4) : (s.withGens v).gens = v := rfl
@[simp] theorem State.withGens_ports (v : Vector Generator 4) : (s.withGens v).ports = s.ports := rfl
@[simp] theorem State.withGens_queue (v : Vector Generator 4) : (s.withGens v).queue = s.queue := rfl
@[simp] theorem State.withGens_cab (v : Vector Generator 4) : (s.withGens v).cab = s.cab := rfl
@[simp] theorem State.withGens_link (v : Vector Generator 4) : (s.withGens v).link = s.link := rfl
@[simp] theorem State.withGens_inReset (v : Vector Generator 4) : (s.withGens v).inReset = s.inReset := rfl
@[simp] theorem State.withGens_choices (v : Vector Generator 4) : (s.withGens v).choices = s.choices := rfl
@[simp] theorem State.withGens_pending (v : Vector Generator 4) : (s.withGens v).pending = s.pending := rfl
@[simp] theorem State.withGens_ownTime (v : Vector Generator 4) : (s.withGens v).ownTime = s.ownTime := rfl
@[simp] theorem State.withGens_now (v : Vector Generator 4) : (s.withGens v).now = s.now := rfl
@[simp] theorem State.withGens_port (v : Vector Generator 4) (p : Port) : (s.withGens v).port p = s.port p := rfl

@[simp] theorem State.withPort_clock (p : Port) (b : BoardPort) : (s.withPort p b).clock = s.clock := rfl
@[simp] theorem State.withPort_ctrl (p : Port) (b : BoardPort) : (s.withPort p b).ctrl = s.ctrl := rfl
@[simp] theorem State.withPort_channels (p : Port) (b : BoardPort) : (s.withPort p b).channels = s.channels := rfl
@[simp] theorem State.withPort_discards (p : Port) (b : BoardPort) : (s.withPort p b).discards = s.discards := rfl
@[simp] theorem State.withPort_routes (p : Port) (b : BoardPort) : (s.withPort p b).routes = s.routes := rfl
@[simp] theorem State.withPort_gens (p : Port) (b : BoardPort) : (s.withPort p b).gens = s.gens := rfl
@[simp] theorem State.withPort_ports (p : Port) (b : BoardPort) : (s.withPort p b).ports = s.ports.set p b := rfl
@[simp] theorem State.withPort_queue (p : Port) (b : BoardPort) : (s.withPort p b).queue = s.queue := rfl
@[simp] theorem State.withPort_cab (p : Port) (b : BoardPort) : (s.withPort p b).cab = s.cab := rfl
@[simp] theorem State.withPort_link (p : Port) (b : BoardPort) : (s.withPort p b).link = s.link := rfl
@[simp] theorem State.withPort_inReset (p : Port) (b : BoardPort) : (s.withPort p b).inReset = s.inReset := rfl
@[simp] theorem State.withPort_choices (p : Port) (b : BoardPort) : (s.withPort p b).choices = s.choices := rfl
@[simp] theorem State.withPort_pending (p : Port) (b : BoardPort) : (s.withPort p b).pending = s.pending := rfl
@[simp] theorem State.withPort_ownTime (p : Port) (b : BoardPort) : (s.withPort p b).ownTime = s.ownTime := rfl
@[simp] theorem State.withPort_now (p : Port) (b : BoardPort) : (s.withPort p b).now = s.now := rfl

@[simp] theorem State.withQueue_clock (q : List Entry) : (s.withQueue q).clock = s.clock := rfl
@[simp] theorem State.withQueue_ctrl (q : List Entry) : (s.withQueue q).ctrl = s.ctrl := rfl
@[simp] theorem State.withQueue_channels (q : List Entry) : (s.withQueue q).channels = s.channels := rfl
@[simp] theorem State.withQueue_discards (q : List Entry) : (s.withQueue q).discards = s.discards := rfl
@[simp] theorem State.withQueue_routes (q : List Entry) : (s.withQueue q).routes = s.routes := rfl
@[simp] theorem State.withQueue_gens (q : List Entry) : (s.withQueue q).gens = s.gens := rfl
@[simp] theorem State.withQueue_ports (q : List Entry) : (s.withQueue q).ports = s.ports := rfl
@[simp] theorem State.withQueue_queue (q : List Entry) : (s.withQueue q).queue = q := rfl
@[simp] theorem State.withQueue_cab (q : List Entry) : (s.withQueue q).cab = s.cab := rfl
@[simp] theorem State.withQueue_link (q : List Entry) : (s.withQueue q).link = s.link := rfl
@[simp] theorem State.withQueue_inReset (q : List Entry) : (s.withQueue q).inReset = s.inReset := rfl
@[simp] theorem State.withQueue_choices (q : List Entry) : (s.withQueue q).choices = s.choices := rfl
@[simp] theorem State.withQueue_pending (q : List Entry) : (s.withQueue q).pending = s.pending := rfl
@[simp] theorem State.withQueue_ownTime (q : List Entry) : (s.withQueue q).ownTime = s.ownTime := rfl
@[simp] theorem State.withQueue_now (q : List Entry) : (s.withQueue q).now = s.now := rfl
@[simp] theorem State.withQueue_port (q : List Entry) (p : Port) : (s.withQueue q).port p = s.port p := rfl

@[simp] theorem State.withCab_clock (c : CabUnit) : (s.withCab c).clock = s.clock := rfl
@[simp] theorem State.withCab_ctrl (c : CabUnit) : (s.withCab c).ctrl = s.ctrl := rfl
@[simp] theorem State.withCab_channels (c : CabUnit) : (s.withCab c).channels = s.channels := rfl
@[simp] theorem State.withCab_discards (c : CabUnit) : (s.withCab c).discards = s.discards := rfl
@[simp] theorem State.withCab_routes (c : CabUnit) : (s.withCab c).routes = s.routes := rfl
@[simp] theorem State.withCab_gens (c : CabUnit) : (s.withCab c).gens = s.gens := rfl
@[simp] theorem State.withCab_ports (c : CabUnit) : (s.withCab c).ports = s.ports := rfl
@[simp] theorem State.withCab_queue (c : CabUnit) : (s.withCab c).queue = s.queue := rfl
@[simp] theorem State.withCab_cab (c : CabUnit) : (s.withCab c).cab = c := rfl
@[simp] theorem State.withCab_link (c : CabUnit) : (s.withCab c).link = s.link := rfl
@[simp] theorem State.withCab_inReset (c : CabUnit) : (s.withCab c).inReset = s.inReset := rfl
@[simp] theorem State.withCab_choices (c : CabUnit) : (s.withCab c).choices = s.choices := rfl
@[simp] theorem State.withCab_pending (c : CabUnit) : (s.withCab c).pending = s.pending := rfl
@[simp] theorem State.withCab_ownTime (c : CabUnit) : (s.withCab c).ownTime = s.ownTime := rfl
@[simp] theorem State.withCab_now (c : CabUnit) : (s.withCab c).now = s.now := rfl
@[simp] theorem State.withCab_port (c : CabUnit) (p : Port) : (s.withCab c).port p = s.port p := rfl

@[simp] theorem State.withLink_clock (l : Link) : (s.withLink l).clock = s.clock := rfl
@[simp] theorem State.withLink_ctrl (l : Link) : (s.withLink l).ctrl = s.ctrl := rfl
@[simp] theorem State.withLink_channels (l : Link) : (s.withLink l).channels = s.channels := rfl
@[simp] theorem State.withLink_discards (l : Link) : (s.withLink l).discards = s.discards := rfl
@[simp] theorem State.withLink_routes (l : Link) : (s.withLink l).routes = s.routes := rfl
@[simp] theorem State.withLink_gens (l : Link) : (s.withLink l).gens = s.gens := rfl
@[simp] theorem State.withLink_ports (l : Link) : (s.withLink l).ports = s.ports := rfl
@[simp] theorem State.withLink_queue (l : Link) : (s.withLink l).queue = s.queue := rfl
@[simp] theorem State.withLink_cab (l : Link) : (s.withLink l).cab = s.cab := rfl
@[simp] theorem State.withLink_link (l : Link) : (s.withLink l).link = l := rfl
@[simp] theorem State.withLink_inReset (l : Link) : (s.withLink l).inReset = s.inReset := rfl
@[simp] theorem State.withLink_choices (l : Link) : (s.withLink l).choices = s.choices := rfl
@[simp] theorem State.withLink_pending (l : Link) : (s.withLink l).pending = s.pending := rfl
@[simp] theorem State.withLink_ownTime (l : Link) : (s.withLink l).ownTime = s.ownTime := rfl
@[simp] theorem State.withLink_now (l : Link) : (s.withLink l).now = s.now := rfl
@[simp] theorem State.withLink_port (l : Link) (p : Port) : (s.withLink l).port p = s.port p := rfl

@[simp] theorem State.withChoices_clock (c : List Choice) : (s.withChoices c).clock = s.clock := rfl
@[simp] theorem State.withChoices_ctrl (c : List Choice) : (s.withChoices c).ctrl = s.ctrl := rfl
@[simp] theorem State.withChoices_channels (c : List Choice) : (s.withChoices c).channels = s.channels := rfl
@[simp] theorem State.withChoices_discards (c : List Choice) : (s.withChoices c).discards = s.discards := rfl
@[simp] theorem State.withChoices_routes (c : List Choice) : (s.withChoices c).routes = s.routes := rfl
@[simp] theorem State.withChoices_gens (c : List Choice) : (s.withChoices c).gens = s.gens := rfl
@[simp] theorem State.withChoices_ports (c : List Choice) : (s.withChoices c).ports = s.ports := rfl
@[simp] theorem State.withChoices_queue (c : List Choice) : (s.withChoices c).queue = s.queue := rfl
@[simp] theorem State.withChoices_cab (c : List Choice) : (s.withChoices c).cab = s.cab := rfl
@[simp] theorem State.withChoices_link (c : List Choice) : (s.withChoices c).link = s.link := rfl
@[simp] theorem State.withChoices_inReset (c : List Choice) : (s.withChoices c).inReset = s.inReset := rfl
@[simp] theorem State.withChoices_choices (c : List Choice) : (s.withChoices c).choices = c := rfl
@[simp] theorem State.withChoices_pending (c : List Choice) : (s.withChoices c).pending = s.pending := rfl
@[simp] theorem State.withChoices_ownTime (c : List Choice) : (s.withChoices c).ownTime = s.ownTime := rfl
@[simp] theorem State.withChoices_now (c : List Choice) : (s.withChoices c).now = s.now := rfl
@[simp] theorem State.withChoices_port (c : List Choice) (p : Port) : (s.withChoices c).port p = s.port p := rfl

@[simp] theorem State.withOwnTime_clock (n : Nat) : (s.withOwnTime n).clock = s.clock := rfl
@[simp] theorem State.withOwnTime_ctrl (n : Nat) : (s.withOwnTime n).ctrl = s.ctrl := rfl
@[simp] theorem State.withOwnTime_channels (n : Nat) : (s.withOwnTime n).channels = s.channels := rfl
@[simp] theorem State.withOwnTime_discards (n : Nat) : (s.withOwnTime n).discards = s.discards := rfl
@[simp] theorem State.withOwnTime_routes (n : Nat) : (s.withOwnTime n).routes = s.routes := rfl
@[simp] theorem State.withOwnTime_gens (n : Nat) : (s.withOwnTime n).gens = s.gens := rfl
@[simp] theorem State.withOwnTime_ports (n : Nat) : (s.withOwnTime n).ports = s.ports := rfl
@[simp] theorem State.withOwnTime_queue (n : Nat) : (s.withOwnTime n).queue = s.queue := rfl
@[simp] theorem State.withOwnTime_cab (n : Nat) : (s.withOwnTime n).cab = s.cab := rfl
@[simp] theorem State.withOwnTime_link (n : Nat) : (s.withOwnTime n).link = s.link := rfl
@[simp] theorem State.withOwnTime_inReset (n : Nat) : (s.withOwnTime n).inReset = s.inReset := rfl
@[simp] theorem State.withOwnTime_choices (n : Nat) : (s.withOwnTime n).choices = s.choices := rfl
@[simp] theorem State.withOwnTime_pending (n : Nat) : (s.withOwnTime n).pending = s.pending := rfl
@[simp] theorem State.withOwnTime_now (n : Nat) : (s.withOwnTime n).now = s.now := rfl
@[simp] theorem State.withOwnTime_ownTime (n : Nat) : (s.withOwnTime n).ownTime = n := rfl
@[simp] theorem State.withOwnTime_port (n : Nat) (p : Port) : (s.withOwnTime n).port p = s.port p := rfl
@[simp] theorem State.withOwnTime_self : s.withOwnTime s.ownTime = s := rfl

theorem Ports.get_set_same (ps : Ports) (p : Port) (b : BoardPort) : (ps.set p b).get p = b := by
  cases p <;> rfl

theorem Ports.get_set_other (ps : Ports) {p q : Port} (b : BoardPort) (h : q ≠ p) :
    (ps.set p b).get q = ps.get q := by
  cases p <;> cases q <;> first | rfl | exact absurd rfl h

@[simp] theorem State.withPort_port_same (p : Port) (b : BoardPort) : (s.withPort p b).port p = b :=
  Ports.get_set_same s.ports p b

theorem State.withPort_port_other {p q : Port} (b : BoardPort) (h : q ≠ p) :
    (s.withPort p b).port q = s.port q :=
  Ports.get_set_other s.ports b h

theorem State.withPort_port (p q : Port) (b : BoardPort) :
    (s.withPort p b).port q = if q = p then b else s.port q := by
  by_cases h : q = p
  · subst h; simp
  · simp [h, State.withPort_port_other]

end Sys2Proof.Machine
end

