-- ==== Sys2Proof/Laws/Frames.lean ====
section
/-! SUPPORT. For each shared operation of the blocks, one lemma that says which parts of the state it
leaves as they are. -/

namespace Sys2Proof.Machine

@[simp] theorem State.kick_frame (s : State) :
    (s.kick).clock = s.clock ∧
    (s.kick).ctrl = s.ctrl ∧
    (s.kick).channels = s.channels ∧
    (s.kick).discards = s.discards ∧
    (s.kick).routes = s.routes ∧
    (s.kick).gens = s.gens ∧
    (s.kick).ports = s.ports ∧
    (s.kick).queue = s.queue ∧
    (s.kick).cab = s.cab ∧
    (s.kick).inReset = s.inReset ∧
    (s.kick).choices = s.choices ∧
    (s.kick).pending = s.pending ∧
    (s.kick).ownTime = s.ownTime := by
  unfold State.kick
  simp

@[simp] theorem State.placeSlots_frame (s : State) (n : NoticeSlots) :
    (s.placeSlots n).clock = s.clock ∧
    (s.placeSlots n).ctrl = s.ctrl ∧
    (s.placeSlots n).channels = s.channels ∧
    (s.placeSlots n).discards = s.discards ∧
    (s.placeSlots n).routes = s.routes ∧
    (s.placeSlots n).gens = s.gens ∧
    (s.placeSlots n).ports = s.ports ∧
    (s.placeSlots n).queue = s.queue ∧
    (s.placeSlots n).cab = s.cab ∧
    (s.placeSlots n).inReset = s.inReset ∧
    (s.placeSlots n).choices = s.choices ∧
    (s.placeSlots n).pending = s.pending ∧
    (s.placeSlots n).ownTime = s.ownTime := by
  unfold State.placeSlots
  simp

@[simp] theorem State.placeState_frame (s : State) (n : StateNotice) :
    (s.placeState n).clock = s.clock ∧
    (s.placeState n).ctrl = s.ctrl ∧
    (s.placeState n).channels = s.channels ∧
    (s.placeState n).discards = s.discards ∧
    (s.placeState n).routes = s.routes ∧
    (s.placeState n).gens = s.gens ∧
    (s.placeState n).ports = s.ports ∧
    (s.placeState n).queue = s.queue ∧
    (s.placeState n).cab = s.cab ∧
    (s.placeState n).inReset = s.inReset ∧
    (s.placeState n).choices = s.choices ∧
    (s.placeState n).pending = s.pending ∧
    (s.placeState n).ownTime = s.ownTime := by
  unfold State.placeState
  simp

@[simp] theorem State.placeClock_frame (s : State) (n : ClockNotice) :
    (s.placeClock n).clock = s.clock ∧
    (s.placeClock n).ctrl = s.ctrl ∧
    (s.placeClock n).channels = s.channels ∧
    (s.placeClock n).discards = s.discards ∧
    (s.placeClock n).routes = s.routes ∧
    (s.placeClock n).gens = s.gens ∧
    (s.placeClock n).ports = s.ports ∧
    (s.placeClock n).queue = s.queue ∧
    (s.placeClock n).cab = s.cab ∧
    (s.placeClock n).inReset = s.inReset ∧
    (s.placeClock n).choices = s.choices ∧
    (s.placeClock n).pending = s.pending ∧
    (s.placeClock n).ownTime = s.ownTime := by
  unfold State.placeClock
  simp

@[simp] theorem State.placePort_frame (s : State) (n : PortNotice) :
    (s.placePort n).clock = s.clock ∧
    (s.placePort n).ctrl = s.ctrl ∧
    (s.placePort n).channels = s.channels ∧
    (s.placePort n).discards = s.discards ∧
    (s.placePort n).routes = s.routes ∧
    (s.placePort n).gens = s.gens ∧
    (s.placePort n).ports = s.ports ∧
    (s.placePort n).queue = s.queue ∧
    (s.placePort n).cab = s.cab ∧
    (s.placePort n).inReset = s.inReset ∧
    (s.placePort n).choices = s.choices ∧
    (s.placePort n).pending = s.pending ∧
    (s.placePort n).ownTime = s.ownTime := by
  unfold State.placePort
  simp

@[simp] theorem State.placeLate_frame (s : State) (n : LateNotice) :
    (s.placeLate n).clock = s.clock ∧
    (s.placeLate n).ctrl = s.ctrl ∧
    (s.placeLate n).channels = s.channels ∧
    (s.placeLate n).discards = s.discards ∧
    (s.placeLate n).routes = s.routes ∧
    (s.placeLate n).gens = s.gens ∧
    (s.placeLate n).ports = s.ports ∧
    (s.placeLate n).queue = s.queue ∧
    (s.placeLate n).cab = s.cab ∧
    (s.placeLate n).inReset = s.inReset ∧
    (s.placeLate n).choices = s.choices ∧
    (s.placeLate n).pending = s.pending ∧
    (s.placeLate n).ownTime = s.ownTime := by
  unfold State.placeLate
  simp

@[simp] theorem State.placeOutcomes_frame (s : State) (n : OutcomesNotice) :
    (s.placeOutcomes n).clock = s.clock ∧
    (s.placeOutcomes n).ctrl = s.ctrl ∧
    (s.placeOutcomes n).channels = s.channels ∧
    (s.placeOutcomes n).discards = s.discards ∧
    (s.placeOutcomes n).routes = s.routes ∧
    (s.placeOutcomes n).gens = s.gens ∧
    (s.placeOutcomes n).ports = s.ports ∧
    (s.placeOutcomes n).queue = s.queue ∧
    (s.placeOutcomes n).cab = s.cab ∧
    (s.placeOutcomes n).inReset = s.inReset ∧
    (s.placeOutcomes n).choices = s.choices ∧
    (s.placeOutcomes n).pending = s.pending ∧
    (s.placeOutcomes n).ownTime = s.ownTime := by
  unfold State.placeOutcomes
  simp

@[simp] theorem State.placeStamps_frame (s : State) (n : StampsNotice) :
    (s.placeStamps n).clock = s.clock ∧
    (s.placeStamps n).ctrl = s.ctrl ∧
    (s.placeStamps n).channels = s.channels ∧
    (s.placeStamps n).discards = s.discards ∧
    (s.placeStamps n).routes = s.routes ∧
    (s.placeStamps n).gens = s.gens ∧
    (s.placeStamps n).ports = s.ports ∧
    (s.placeStamps n).queue = s.queue ∧
    (s.placeStamps n).cab = s.cab ∧
    (s.placeStamps n).inReset = s.inReset ∧
    (s.placeStamps n).choices = s.choices ∧
    (s.placeStamps n).pending = s.pending ∧
    (s.placeStamps n).ownTime = s.ownTime := by
  unfold State.placeStamps
  simp

@[simp] theorem State.placeFrameStart_frame (s : State) (r : FrameStartRecord) :
    (s.placeFrameStart r).clock = s.clock ∧
    (s.placeFrameStart r).ctrl = s.ctrl ∧
    (s.placeFrameStart r).channels = s.channels ∧
    (s.placeFrameStart r).discards = s.discards ∧
    (s.placeFrameStart r).routes = s.routes ∧
    (s.placeFrameStart r).gens = s.gens ∧
    (s.placeFrameStart r).ports = s.ports ∧
    (s.placeFrameStart r).queue = s.queue ∧
    (s.placeFrameStart r).cab = s.cab ∧
    (s.placeFrameStart r).inReset = s.inReset ∧
    (s.placeFrameStart r).choices = s.choices ∧
    (s.placeFrameStart r).pending = s.pending ∧
    (s.placeFrameStart r).ownTime = s.ownTime := by
  unfold State.placeFrameStart
  simp

@[simp] theorem State.pushReply_frame (s : State) (r : Reply) :
    (s.pushReply r).clock = s.clock ∧
    (s.pushReply r).ctrl = s.ctrl ∧
    (s.pushReply r).channels = s.channels ∧
    (s.pushReply r).discards = s.discards ∧
    (s.pushReply r).routes = s.routes ∧
    (s.pushReply r).gens = s.gens ∧
    (s.pushReply r).ports = s.ports ∧
    (s.pushReply r).queue = s.queue ∧
    (s.pushReply r).cab = s.cab ∧
    (s.pushReply r).inReset = s.inReset ∧
    (s.pushReply r).choices = s.choices ∧
    (s.pushReply r).pending = s.pending ∧
    (s.pushReply r).ownTime = s.ownTime := by
  unfold State.pushReply
  simp

@[simp] theorem State.noteClock_frame (s : State) (left : ClockState) (cause : ClockCause) :
    (s.noteClock left cause).clock = s.clock ∧
    (s.noteClock left cause).ctrl = s.ctrl ∧
    (s.noteClock left cause).channels = s.channels ∧
    (s.noteClock left cause).discards = s.discards ∧
    (s.noteClock left cause).routes = s.routes ∧
    (s.noteClock left cause).gens = s.gens ∧
    (s.noteClock left cause).ports = s.ports ∧
    (s.noteClock left cause).queue = s.queue ∧
    (s.noteClock left cause).cab = s.cab ∧
    (s.noteClock left cause).inReset = s.inReset ∧
    (s.noteClock left cause).choices = s.choices ∧
    (s.noteClock left cause).pending = s.pending ∧
    (s.noteClock left cause).ownTime = s.ownTime := by
  unfold State.noteClock
  repeat' split
  all_goals simp

@[simp] theorem State.clockFrameStart_frame (s : State) :
    (s.clockFrameStart).ctrl = s.ctrl ∧
    (s.clockFrameStart).channels = s.channels ∧
    (s.clockFrameStart).discards = s.discards ∧
    (s.clockFrameStart).routes = s.routes ∧
    (s.clockFrameStart).gens = s.gens ∧
    (s.clockFrameStart).ports = s.ports ∧
    (s.clockFrameStart).queue = s.queue ∧
    (s.clockFrameStart).cab = s.cab ∧
    (s.clockFrameStart).inReset = s.inReset ∧
    (s.clockFrameStart).choices = s.choices ∧
    (s.clockFrameStart).pending = s.pending ∧
    (s.clockFrameStart).ownTime = s.ownTime := by
  unfold State.clockFrameStart
  repeat' split
  all_goals simp

@[simp] theorem State.clockCapture_frame (s : State) :
    (s.clockCapture).ctrl = s.ctrl ∧
    (s.clockCapture).channels = s.channels ∧
    (s.clockCapture).discards = s.discards ∧
    (s.clockCapture).routes = s.routes ∧
    (s.clockCapture).gens = s.gens ∧
    (s.clockCapture).ports = s.ports ∧
    (s.clockCapture).queue = s.queue ∧
    (s.clockCapture).cab = s.cab ∧
    (s.clockCapture).inReset = s.inReset ∧
    (s.clockCapture).choices = s.choices ∧
    (s.clockCapture).pending = s.pending ∧
    (s.clockCapture).ownTime = s.ownTime := by
  unfold State.clockCapture
  repeat' split
  all_goals simp

@[simp] theorem State.takePair_frame (t : Instant) (s : State) (x : Byte × Cue) :
    (State.takePair t s x).clock = s.clock ∧
    (State.takePair t s x).ctrl = s.ctrl ∧
    (State.takePair t s x).routes = s.routes ∧
    (State.takePair t s x).gens = s.gens ∧
    (State.takePair t s x).ports = s.ports ∧
    (State.takePair t s x).queue = s.queue ∧
    (State.takePair t s x).cab = s.cab ∧
    (State.takePair t s x).link = s.link ∧
    (State.takePair t s x).inReset = s.inReset ∧
    (State.takePair t s x).choices = s.choices ∧
    (State.takePair t s x).pending = s.pending ∧
    (State.takePair t s x).ownTime = s.ownTime := by
  unfold State.takePair
  dsimp only
  repeat' split
  all_goals simp

@[simp] theorem State.takePairs_frame (t : Instant) (xs : List (Byte × Cue)) (s : State) :
    (xs.foldl (State.takePair t) s).clock = s.clock ∧
    (xs.foldl (State.takePair t) s).ctrl = s.ctrl ∧
    (xs.foldl (State.takePair t) s).routes = s.routes ∧
    (xs.foldl (State.takePair t) s).gens = s.gens ∧
    (xs.foldl (State.takePair t) s).ports = s.ports ∧
    (xs.foldl (State.takePair t) s).queue = s.queue ∧
    (xs.foldl (State.takePair t) s).cab = s.cab ∧
    (xs.foldl (State.takePair t) s).link = s.link ∧
    (xs.foldl (State.takePair t) s).inReset = s.inReset ∧
    (xs.foldl (State.takePair t) s).choices = s.choices ∧
    (xs.foldl (State.takePair t) s).pending = s.pending ∧
    (xs.foldl (State.takePair t) s).ownTime = s.ownTime := by
  induction xs generalizing s with
  | nil => simp
  | cons x xs ih => simpa using ih (State.takePair t s x)

@[simp] theorem State.takeSamples_frame (f : Frame) (u : Word) (xs : List (Byte × Cue)) (s : State) :
    (State.takeSamples f u xs s).clock = s.clock ∧
    (State.takeSamples f u xs s).ctrl = s.ctrl ∧
    (State.takeSamples f u xs s).routes = s.routes ∧
    (State.takeSamples f u xs s).gens = s.gens ∧
    (State.takeSamples f u xs s).ports = s.ports ∧
    (State.takeSamples f u xs s).queue = s.queue ∧
    (State.takeSamples f u xs s).cab = s.cab ∧
    (State.takeSamples f u xs s).link = s.link ∧
    (State.takeSamples f u xs s).inReset = s.inReset ∧
    (State.takeSamples f u xs s).choices = s.choices ∧
    (State.takeSamples f u xs s).pending = s.pending ∧
    (State.takeSamples f u xs s).ownTime = s.ownTime := by
  unfold State.takeSamples
  repeat' split
  all_goals simp

@[simp] theorem State.ageChannels_frame (s : State) :
    (s.ageChannels).clock = s.clock ∧
    (s.ageChannels).ctrl = s.ctrl ∧
    (s.ageChannels).discards = s.discards ∧
    (s.ageChannels).routes = s.routes ∧
    (s.ageChannels).gens = s.gens ∧
    (s.ageChannels).ports = s.ports ∧
    (s.ageChannels).queue = s.queue ∧
    (s.ageChannels).cab = s.cab ∧
    (s.ageChannels).link = s.link ∧
    (s.ageChannels).inReset = s.inReset ∧
    (s.ageChannels).choices = s.choices ∧
    (s.ageChannels).pending = s.pending ∧
    (s.ageChannels).ownTime = s.ownTime := by
  unfold State.ageChannels
  simp

@[simp] theorem State.frameStartGenerators_frame (r : Bool) (s : State) :
    (s.frameStartGenerators r).clock = s.clock ∧
    (s.frameStartGenerators r).ctrl = s.ctrl ∧
    (s.frameStartGenerators r).channels = s.channels ∧
    (s.frameStartGenerators r).discards = s.discards ∧
    (s.frameStartGenerators r).routes = s.routes ∧
    (s.frameStartGenerators r).ports = s.ports ∧
    (s.frameStartGenerators r).queue = s.queue ∧
    (s.frameStartGenerators r).cab = s.cab ∧
    (s.frameStartGenerators r).link = s.link ∧
    (s.frameStartGenerators r).inReset = s.inReset ∧
    (s.frameStartGenerators r).choices = s.choices ∧
    (s.frameStartGenerators r).pending = s.pending ∧
    (s.frameStartGenerators r).ownTime = s.ownTime := by
  unfold State.frameStartGenerators
  simp

@[simp] theorem State.offerTrigger_frame (n : Fin 16) (t : Instant) (s : State) :
    (s.offerTrigger n t).clock = s.clock ∧
    (s.offerTrigger n t).ctrl = s.ctrl ∧
    (s.offerTrigger n t).channels = s.channels ∧
    (s.offerTrigger n t).discards = s.discards ∧
    (s.offerTrigger n t).routes = s.routes ∧
    (s.offerTrigger n t).ports = s.ports ∧
    (s.offerTrigger n t).queue = s.queue ∧
    (s.offerTrigger n t).cab = s.cab ∧
    (s.offerTrigger n t).link = s.link ∧
    (s.offerTrigger n t).inReset = s.inReset ∧
    (s.offerTrigger n t).choices = s.choices ∧
    (s.offerTrigger n t).pending = s.pending ∧
    (s.offerTrigger n t).ownTime = s.ownTime := by
  unfold State.offerTrigger
  simp

@[simp] theorem State.skipOne_frame (p : Port) (sc : Schedule) (s : State) :
    (s.skipOne p sc).clock = s.clock ∧
    (s.skipOne p sc).ctrl = s.ctrl ∧
    (s.skipOne p sc).channels = s.channels ∧
    (s.skipOne p sc).discards = s.discards ∧
    (s.skipOne p sc).routes = s.routes ∧
    (s.skipOne p sc).gens = s.gens ∧
    (s.skipOne p sc).queue = s.queue ∧
    (s.skipOne p sc).cab = s.cab ∧
    (s.skipOne p sc).inReset = s.inReset ∧
    (s.skipOne p sc).choices = s.choices ∧
    (s.skipOne p sc).pending = s.pending ∧
    (s.skipOne p sc).ownTime = s.ownTime := by
  unfold State.skipOne
  dsimp only
  split <;> simp

@[simp] theorem State.skipPast_frame (p : Port) (n : Nat) (s : State) :
    (s.skipPast p n).clock = s.clock ∧
    (s.skipPast p n).ctrl = s.ctrl ∧
    (s.skipPast p n).channels = s.channels ∧
    (s.skipPast p n).discards = s.discards ∧
    (s.skipPast p n).routes = s.routes ∧
    (s.skipPast p n).gens = s.gens ∧
    (s.skipPast p n).queue = s.queue ∧
    (s.skipPast p n).cab = s.cab ∧
    (s.skipPast p n).inReset = s.inReset ∧
    (s.skipPast p n).choices = s.choices ∧
    (s.skipPast p n).pending = s.pending ∧
    (s.skipPast p n).ownTime = s.ownTime := by
  induction n generalizing s with
  | zero => simp [State.skipPast]
  | succ n ih =>
    unfold State.skipPast
    split
    · split
      · rename_i sc _ _
        simpa using ih (s.skipOne p sc)
      · simp
    · simp

@[simp] theorem State.mapDests_frame (f : Entry → Destination → Destination) (s : State) :
    (s.mapDests f).clock = s.clock ∧
    (s.mapDests f).ctrl = s.ctrl ∧
    (s.mapDests f).channels = s.channels ∧
    (s.mapDests f).discards = s.discards ∧
    (s.mapDests f).routes = s.routes ∧
    (s.mapDests f).gens = s.gens ∧
    (s.mapDests f).ports = s.ports ∧
    (s.mapDests f).cab = s.cab ∧
    (s.mapDests f).link = s.link ∧
    (s.mapDests f).inReset = s.inReset ∧
    (s.mapDests f).choices = s.choices ∧
    (s.mapDests f).pending = s.pending ∧
    (s.mapDests f).ownTime = s.ownTime := by
  unfold State.mapDests
  simp

@[simp] theorem State.mapDest_frame (tag : Byte) (p : Port) (f : Destination → Destination) (s : State) :
    (s.mapDest tag p f).clock = s.clock ∧
    (s.mapDest tag p f).ctrl = s.ctrl ∧
    (s.mapDest tag p f).channels = s.channels ∧
    (s.mapDest tag p f).discards = s.discards ∧
    (s.mapDest tag p f).routes = s.routes ∧
    (s.mapDest tag p f).gens = s.gens ∧
    (s.mapDest tag p f).ports = s.ports ∧
    (s.mapDest tag p f).cab = s.cab ∧
    (s.mapDest tag p f).link = s.link ∧
    (s.mapDest tag p f).inReset = s.inReset ∧
    (s.mapDest tag p f).choices = s.choices ∧
    (s.mapDest tag p f).pending = s.pending ∧
    (s.mapDest tag p f).ownTime = s.ownTime := by
  unfold State.mapDest
  simp

@[simp] theorem State.markDone_frame (tag : Byte) (s : State) :
    (s.markDone tag).clock = s.clock ∧
    (s.markDone tag).ctrl = s.ctrl ∧
    (s.markDone tag).channels = s.channels ∧
    (s.markDone tag).discards = s.discards ∧
    (s.markDone tag).routes = s.routes ∧
    (s.markDone tag).gens = s.gens ∧
    (s.markDone tag).ports = s.ports ∧
    (s.markDone tag).cab = s.cab ∧
    (s.markDone tag).link = s.link ∧
    (s.markDone tag).inReset = s.inReset ∧
    (s.markDone tag).choices = s.choices ∧
    (s.markDone tag).pending = s.pending ∧
    (s.markDone tag).ownTime = s.ownTime := by
  unfold State.markDone
  simp

@[simp] theorem State.settleEntry_frame (s : State) (e : Entry) :
    (s.settleEntry e).clock = s.clock ∧
    (s.settleEntry e).ctrl = s.ctrl ∧
    (s.settleEntry e).channels = s.channels ∧
    (s.settleEntry e).discards = s.discards ∧
    (s.settleEntry e).routes = s.routes ∧
    (s.settleEntry e).gens = s.gens ∧
    (s.settleEntry e).ports = s.ports ∧
    (s.settleEntry e).cab = s.cab ∧
    (s.settleEntry e).inReset = s.inReset ∧
    (s.settleEntry e).choices = s.choices ∧
    (s.settleEntry e).pending = s.pending ∧
    (s.settleEntry e).ownTime = s.ownTime := by
  unfold State.settleEntry
  dsimp only
  split <;> simp

@[simp] theorem State.settleAll_frame (es : List Entry) (s : State) :
    (es.foldl State.settleEntry s).clock = s.clock ∧
    (es.foldl State.settleEntry s).ctrl = s.ctrl ∧
    (es.foldl State.settleEntry s).channels = s.channels ∧
    (es.foldl State.settleEntry s).discards = s.discards ∧
    (es.foldl State.settleEntry s).routes = s.routes ∧
    (es.foldl State.settleEntry s).gens = s.gens ∧
    (es.foldl State.settleEntry s).ports = s.ports ∧
    (es.foldl State.settleEntry s).cab = s.cab ∧
    (es.foldl State.settleEntry s).inReset = s.inReset ∧
    (es.foldl State.settleEntry s).choices = s.choices ∧
    (es.foldl State.settleEntry s).pending = s.pending ∧
    (es.foldl State.settleEntry s).ownTime = s.ownTime := by
  induction es generalizing s with
  | nil => simp
  | cons e es ih => simpa using ih (s.settleEntry e)

@[simp] theorem State.settle_frame (s : State) :
    (s.settle).clock = s.clock ∧
    (s.settle).ctrl = s.ctrl ∧
    (s.settle).channels = s.channels ∧
    (s.settle).discards = s.discards ∧
    (s.settle).routes = s.routes ∧
    (s.settle).gens = s.gens ∧
    (s.settle).ports = s.ports ∧
    (s.settle).cab = s.cab ∧
    (s.settle).inReset = s.inReset ∧
    (s.settle).choices = s.choices ∧
    (s.settle).pending = s.pending ∧
    (s.settle).ownTime = s.ownTime := by
  unfold State.settle
  simp

@[simp] theorem State.refreshEvents_frame (w : Port → Bool) (s : State) :
    (s.refreshEvents w).clock = s.clock ∧
    (s.refreshEvents w).ctrl = s.ctrl ∧
    (s.refreshEvents w).channels = s.channels ∧
    (s.refreshEvents w).discards = s.discards ∧
    (s.refreshEvents w).routes = s.routes ∧
    (s.refreshEvents w).gens = s.gens ∧
    (s.refreshEvents w).ports = s.ports ∧
    (s.refreshEvents w).cab = s.cab ∧
    (s.refreshEvents w).inReset = s.inReset ∧
    (s.refreshEvents w).choices = s.choices ∧
    (s.refreshEvents w).pending = s.pending ∧
    (s.refreshEvents w).ownTime = s.ownTime := by
  unfold State.refreshEvents
  simp

@[simp] theorem State.expireEvents_frame (s : State) :
    (s.expireEvents).clock = s.clock ∧
    (s.expireEvents).ctrl = s.ctrl ∧
    (s.expireEvents).channels = s.channels ∧
    (s.expireEvents).discards = s.discards ∧
    (s.expireEvents).routes = s.routes ∧
    (s.expireEvents).gens = s.gens ∧
    (s.expireEvents).ports = s.ports ∧
    (s.expireEvents).cab = s.cab ∧
    (s.expireEvents).inReset = s.inReset ∧
    (s.expireEvents).choices = s.choices ∧
    (s.expireEvents).pending = s.pending ∧
    (s.expireEvents).ownTime = s.ownTime := by
  unfold State.expireEvents
  simp

@[simp] theorem State.flushEvents_frame (s : State) :
    (s.flushEvents).clock = s.clock ∧
    (s.flushEvents).ctrl = s.ctrl ∧
    (s.flushEvents).channels = s.channels ∧
    (s.flushEvents).discards = s.discards ∧
    (s.flushEvents).routes = s.routes ∧
    (s.flushEvents).gens = s.gens ∧
    (s.flushEvents).ports = s.ports ∧
    (s.flushEvents).cab = s.cab ∧
    (s.flushEvents).inReset = s.inReset ∧
    (s.flushEvents).choices = s.choices ∧
    (s.flushEvents).pending = s.pending ∧
    (s.flushEvents).ownTime = s.ownTime := by
  unfold State.flushEvents
  simp

@[simp] theorem State.flushUnsent_frame (s : State) :
    (s.flushUnsent).clock = s.clock ∧
    (s.flushUnsent).ctrl = s.ctrl ∧
    (s.flushUnsent).channels = s.channels ∧
    (s.flushUnsent).discards = s.discards ∧
    (s.flushUnsent).routes = s.routes ∧
    (s.flushUnsent).gens = s.gens ∧
    (s.flushUnsent).ports = s.ports ∧
    (s.flushUnsent).cab = s.cab ∧
    (s.flushUnsent).inReset = s.inReset ∧
    (s.flushUnsent).choices = s.choices ∧
    (s.flushUnsent).pending = s.pending ∧
    (s.flushUnsent).ownTime = s.ownTime := by
  unfold State.flushUnsent
  simp

@[simp] theorem State.launch_frame (p : Port) (k : Packet) (s : State) :
    (s.launch p k).clock = s.clock ∧
    (s.launch p k).ctrl = s.ctrl ∧
    (s.launch p k).channels = s.channels ∧
    (s.launch p k).discards = s.discards ∧
    (s.launch p k).routes = s.routes ∧
    (s.launch p k).gens = s.gens ∧
    (s.launch p k).queue = s.queue ∧
    (s.launch p k).cab = s.cab ∧
    (s.launch p k).link = s.link ∧
    (s.launch p k).inReset = s.inReset ∧
    (s.launch p k).choices = s.choices ∧
    (s.launch p k).pending = s.pending ∧
    (s.launch p k).ownTime = s.ownTime := by
  unfold State.launch
  simp

@[simp] theorem State.startCue_frame (p : Port) (s : State) :
    (s.startCue p).clock = s.clock ∧
    (s.startCue p).ctrl = s.ctrl ∧
    (s.startCue p).channels = s.channels ∧
    (s.startCue p).discards = s.discards ∧
    (s.startCue p).gens = s.gens ∧
    (s.startCue p).queue = s.queue ∧
    (s.startCue p).cab = s.cab ∧
    (s.startCue p).inReset = s.inReset ∧
    (s.startCue p).choices = s.choices ∧
    (s.startCue p).pending = s.pending ∧
    (s.startCue p).ownTime = s.ownTime := by
  unfold State.startCue
  split <;> simp

@[simp] theorem State.startContinuation_frame (p : Port) (k : Packet) (s : State) :
    (s.startContinuation p k).clock = s.clock ∧
    (s.startContinuation p k).ctrl = s.ctrl ∧
    (s.startContinuation p k).channels = s.channels ∧
    (s.startContinuation p k).discards = s.discards ∧
    (s.startContinuation p k).routes = s.routes ∧
    (s.startContinuation p k).gens = s.gens ∧
    (s.startContinuation p k).queue = s.queue ∧
    (s.startContinuation p k).cab = s.cab ∧
    (s.startContinuation p k).link = s.link ∧
    (s.startContinuation p k).inReset = s.inReset ∧
    (s.startContinuation p k).choices = s.choices ∧
    (s.startContinuation p k).pending = s.pending ∧
    (s.startContinuation p k).ownTime = s.ownTime := by
  unfold State.startContinuation
  simp

@[simp] theorem State.startEvent_frame (p : Port) (tag : Byte) (s : State) :
    (s.startEvent p tag).clock = s.clock ∧
    (s.startEvent p tag).ctrl = s.ctrl ∧
    (s.startEvent p tag).channels = s.channels ∧
    (s.startEvent p tag).discards = s.discards ∧
    (s.startEvent p tag).routes = s.routes ∧
    (s.startEvent p tag).gens = s.gens ∧
    (s.startEvent p tag).cab = s.cab ∧
    (s.startEvent p tag).link = s.link ∧
    (s.startEvent p tag).inReset = s.inReset ∧
    (s.startEvent p tag).choices = s.choices ∧
    (s.startEvent p tag).pending = s.pending ∧
    (s.startEvent p tag).ownTime = s.ownTime := by
  unfold State.startEvent
  split <;> simp

@[simp] theorem State.startNeutral_frame (p : Port) (s : State) :
    (s.startNeutral p).clock = s.clock ∧
    (s.startNeutral p).ctrl = s.ctrl ∧
    (s.startNeutral p).channels = s.channels ∧
    (s.startNeutral p).discards = s.discards ∧
    (s.startNeutral p).routes = s.routes ∧
    (s.startNeutral p).gens = s.gens ∧
    (s.startNeutral p).queue = s.queue ∧
    (s.startNeutral p).cab = s.cab ∧
    (s.startNeutral p).link = s.link ∧
    (s.startNeutral p).inReset = s.inReset ∧
    (s.startNeutral p).choices = s.choices ∧
    (s.startNeutral p).pending = s.pending ∧
    (s.startNeutral p).ownTime = s.ownTime := by
  unfold State.startNeutral
  split <;> simp

@[simp] theorem State.startEcho_frame (p : Port) (s : State) :
    (s.startEcho p).clock = s.clock ∧
    (s.startEcho p).ctrl = s.ctrl ∧
    (s.startEcho p).channels = s.channels ∧
    (s.startEcho p).discards = s.discards ∧
    (s.startEcho p).routes = s.routes ∧
    (s.startEcho p).gens = s.gens ∧
    (s.startEcho p).queue = s.queue ∧
    (s.startEcho p).cab = s.cab ∧
    (s.startEcho p).link = s.link ∧
    (s.startEcho p).inReset = s.inReset ∧
    (s.startEcho p).choices = s.choices ∧
    (s.startEcho p).pending = s.pending ∧
    (s.startEcho p).ownTime = s.ownTime := by
  unfold State.startEcho
  split <;> simp

@[simp] theorem State.startClaim_frame (p : Port) (c : Claim) (s : State) :
    (s.startClaim p c).clock = s.clock ∧
    (s.startClaim p c).ctrl = s.ctrl ∧
    (s.startClaim p c).channels = s.channels ∧
    (s.startClaim p c).discards = s.discards ∧
    (s.startClaim p c).gens = s.gens ∧
    (s.startClaim p c).cab = s.cab ∧
    (s.startClaim p c).inReset = s.inReset ∧
    (s.startClaim p c).choices = s.choices ∧
    (s.startClaim p c).pending = s.pending ∧
    (s.startClaim p c).ownTime = s.ownTime := by
  cases c <;> simp [State.startClaim]

@[simp] theorem State.grant_frame (p : Port) (s : State) :
    (s.grant p).clock = s.clock ∧
    (s.grant p).ctrl = s.ctrl ∧
    (s.grant p).channels = s.channels ∧
    (s.grant p).discards = s.discards ∧
    (s.grant p).gens = s.gens ∧
    (s.grant p).cab = s.cab ∧
    (s.grant p).inReset = s.inReset ∧
    (s.grant p).choices = s.choices ∧
    (s.grant p).pending = s.pending ∧
    (s.grant p).ownTime = s.ownTime := by
  unfold State.grant
  repeat' split
  all_goals simp

@[simp] theorem State.grantAll_frame (s : State) :
    (s.grantAll).clock = s.clock ∧
    (s.grantAll).ctrl = s.ctrl ∧
    (s.grantAll).channels = s.channels ∧
    (s.grantAll).discards = s.discards ∧
    (s.grantAll).gens = s.gens ∧
    (s.grantAll).cab = s.cab ∧
    (s.grantAll).inReset = s.inReset ∧
    (s.grantAll).choices = s.choices ∧
    (s.grantAll).pending = s.pending ∧
    (s.grantAll).ownTime = s.ownTime := by
  unfold State.grantAll
  simp

@[simp] theorem State.expireConts_frame (p : Port) (s : State) :
    (s.expireConts p).clock = s.clock ∧
    (s.expireConts p).ctrl = s.ctrl ∧
    (s.expireConts p).channels = s.channels ∧
    (s.expireConts p).discards = s.discards ∧
    (s.expireConts p).routes = s.routes ∧
    (s.expireConts p).gens = s.gens ∧
    (s.expireConts p).queue = s.queue ∧
    (s.expireConts p).cab = s.cab ∧
    (s.expireConts p).link = s.link ∧
    (s.expireConts p).inReset = s.inReset ∧
    (s.expireConts p).choices = s.choices ∧
    (s.expireConts p).pending = s.pending ∧
    (s.expireConts p).ownTime = s.ownTime := by
  unfold State.expireConts
  simp

@[simp] theorem State.expirePort_frame (p : Port) (s : State) :
    (s.expirePort p).clock = s.clock ∧
    (s.expirePort p).ctrl = s.ctrl ∧
    (s.expirePort p).channels = s.channels ∧
    (s.expirePort p).discards = s.discards ∧
    (s.expirePort p).routes = s.routes ∧
    (s.expirePort p).gens = s.gens ∧
    (s.expirePort p).queue = s.queue ∧
    (s.expirePort p).cab = s.cab ∧
    (s.expirePort p).inReset = s.inReset ∧
    (s.expirePort p).choices = s.choices ∧
    (s.expirePort p).pending = s.pending ∧
    (s.expirePort p).ownTime = s.ownTime := by
  unfold State.expirePort
  simp

@[simp] theorem State.expireAll_frame (s : State) :
    (s.expireAll).clock = s.clock ∧
    (s.expireAll).ctrl = s.ctrl ∧
    (s.expireAll).channels = s.channels ∧
    (s.expireAll).discards = s.discards ∧
    (s.expireAll).routes = s.routes ∧
    (s.expireAll).gens = s.gens ∧
    (s.expireAll).cab = s.cab ∧
    (s.expireAll).inReset = s.inReset ∧
    (s.expireAll).choices = s.choices ∧
    (s.expireAll).pending = s.pending ∧
    (s.expireAll).ownTime = s.ownTime := by
  unfold State.expireAll
  simp

@[simp] theorem State.finishLines_frame (s : State) :
    (s.finishLines).clock = s.clock ∧
    (s.finishLines).ctrl = s.ctrl ∧
    (s.finishLines).channels = s.channels ∧
    (s.finishLines).discards = s.discards ∧
    (s.finishLines).gens = s.gens ∧
    (s.finishLines).cab = s.cab ∧
    (s.finishLines).inReset = s.inReset ∧
    (s.finishLines).choices = s.choices ∧
    (s.finishLines).pending = s.pending ∧
    (s.finishLines).ownTime = s.ownTime := by
  unfold State.finishLines
  simp

@[simp] theorem State.completePacket_frame (p : Port) (s : State) :
    (s.completePacket p).clock = s.clock ∧
    (s.completePacket p).ctrl = s.ctrl ∧
    (s.completePacket p).channels = s.channels ∧
    (s.completePacket p).discards = s.discards ∧
    (s.completePacket p).routes = s.routes ∧
    (s.completePacket p).gens = s.gens ∧
    (s.completePacket p).cab = s.cab ∧
    (s.completePacket p).inReset = s.inReset ∧
    (s.completePacket p).choices = s.choices ∧
    (s.completePacket p).pending = s.pending ∧
    (s.completePacket p).ownTime = s.ownTime := by
  unfold State.completePacket
  dsimp only
  repeat' split
  all_goals simp

@[simp] theorem State.cut_frame (p : Port) (s : State) :
    (s.cut p).clock = s.clock ∧
    (s.cut p).ctrl = s.ctrl ∧
    (s.cut p).channels = s.channels ∧
    (s.cut p).discards = s.discards ∧
    (s.cut p).routes = s.routes ∧
    (s.cut p).gens = s.gens ∧
    (s.cut p).queue = s.queue ∧
    (s.cut p).cab = s.cab ∧
    (s.cut p).link = s.link ∧
    (s.cut p).inReset = s.inReset ∧
    (s.cut p).choices = s.choices ∧
    (s.cut p).pending = s.pending ∧
    (s.cut p).ownTime = s.ownTime := by
  unfold State.cut
  simp

@[simp] theorem State.interrupt_frame (p : Port) (s : State) :
    (s.interrupt p).clock = s.clock ∧
    (s.interrupt p).ctrl = s.ctrl ∧
    (s.interrupt p).channels = s.channels ∧
    (s.interrupt p).discards = s.discards ∧
    (s.interrupt p).routes = s.routes ∧
    (s.interrupt p).gens = s.gens ∧
    (s.interrupt p).cab = s.cab ∧
    (s.interrupt p).link = s.link ∧
    (s.interrupt p).inReset = s.inReset ∧
    (s.interrupt p).choices = s.choices ∧
    (s.interrupt p).pending = s.pending ∧
    (s.interrupt p).ownTime = s.ownTime := by
  unfold State.interrupt
  dsimp only
  repeat' split
  all_goals simp

@[simp] theorem State.changeHub_frame (st : HubState) (r : HaltReason) (f : Nat) (c : StateCause) (s : State) :
    (s.changeHub st r f c).clock = s.clock ∧
    (s.changeHub st r f c).channels = s.channels ∧
    (s.changeHub st r f c).discards = s.discards ∧
    (s.changeHub st r f c).routes = s.routes ∧
    (s.changeHub st r f c).gens = s.gens ∧
    (s.changeHub st r f c).ports = s.ports ∧
    (s.changeHub st r f c).queue = s.queue ∧
    (s.changeHub st r f c).cab = s.cab ∧
    (s.changeHub st r f c).inReset = s.inReset ∧
    (s.changeHub st r f c).choices = s.choices ∧
    (s.changeHub st r f c).pending = s.pending ∧
    (s.changeHub st r f c).ownTime = s.ownTime := by
  unfold State.changeHub
  simp

@[simp] theorem State.enterMotion_frame (c : StateCause) (s : State) :
    (s.enterMotion c).clock = s.clock ∧
    (s.enterMotion c).channels = s.channels ∧
    (s.enterMotion c).discards = s.discards ∧
    (s.enterMotion c).routes = s.routes ∧
    (s.enterMotion c).gens = s.gens ∧
    (s.enterMotion c).ports = s.ports ∧
    (s.enterMotion c).queue = s.queue ∧
    (s.enterMotion c).cab = s.cab ∧
    (s.enterMotion c).inReset = s.inReset ∧
    (s.enterMotion c).choices = s.choices ∧
    (s.enterMotion c).pending = s.pending ∧
    (s.enterMotion c).ownTime = s.ownTime := by
  unfold State.enterMotion
  repeat' split
  all_goals simp

@[simp] theorem State.snapshotConditions_frame (s : State) :
    (s.snapshotConditions).clock = s.clock ∧
    (s.snapshotConditions).ctrl = s.ctrl ∧
    (s.snapshotConditions).channels = s.channels ∧
    (s.snapshotConditions).discards = s.discards ∧
    (s.snapshotConditions).routes = s.routes ∧
    (s.snapshotConditions).gens = s.gens ∧
    (s.snapshotConditions).ports = s.ports ∧
    (s.snapshotConditions).queue = s.queue ∧
    (s.snapshotConditions).link = s.link ∧
    (s.snapshotConditions).inReset = s.inReset ∧
    (s.snapshotConditions).choices = s.choices ∧
    (s.snapshotConditions).pending = s.pending ∧
    (s.snapshotConditions).ownTime = s.ownTime := by
  unfold State.snapshotConditions
  simp

@[simp] theorem State.cutEvent_frame (p : Port) (s : State) :
    (s.cutEvent p).clock = s.clock ∧
    (s.cutEvent p).ctrl = s.ctrl ∧
    (s.cutEvent p).channels = s.channels ∧
    (s.cutEvent p).discards = s.discards ∧
    (s.cutEvent p).routes = s.routes ∧
    (s.cutEvent p).gens = s.gens ∧
    (s.cutEvent p).queue = s.queue ∧
    (s.cutEvent p).cab = s.cab ∧
    (s.cutEvent p).link = s.link ∧
    (s.cutEvent p).inReset = s.inReset ∧
    (s.cutEvent p).choices = s.choices ∧
    (s.cutEvent p).pending = s.pending ∧
    (s.cutEvent p).ownTime = s.ownTime := by
  unfold State.cutEvent
  repeat' split
  all_goals simp

@[simp] theorem State.enterPaused_frame (c : StateCause) (s : State) :
    (s.enterPaused c).clock = s.clock ∧
    (s.enterPaused c).channels = s.channels ∧
    (s.enterPaused c).discards = s.discards ∧
    (s.enterPaused c).routes = s.routes ∧
    (s.enterPaused c).gens = s.gens ∧
    (s.enterPaused c).inReset = s.inReset ∧
    (s.enterPaused c).choices = s.choices ∧
    (s.enterPaused c).pending = s.pending ∧
    (s.enterPaused c).ownTime = s.ownTime := by
  unfold State.enterPaused
  simp

@[simp] theorem State.haltPort_frame (p : Port) (s : State) :
    (s.haltPort p).clock = s.clock ∧
    (s.haltPort p).ctrl = s.ctrl ∧
    (s.haltPort p).channels = s.channels ∧
    (s.haltPort p).discards = s.discards ∧
    (s.haltPort p).routes = s.routes ∧
    (s.haltPort p).gens = s.gens ∧
    (s.haltPort p).queue = s.queue ∧
    (s.haltPort p).cab = s.cab ∧
    (s.haltPort p).link = s.link ∧
    (s.haltPort p).inReset = s.inReset ∧
    (s.haltPort p).choices = s.choices ∧
    (s.haltPort p).pending = s.pending ∧
    (s.haltPort p).ownTime = s.ownTime := by
  unfold State.haltPort
  simp

@[simp] theorem State.enterHalted_frame (r : HaltReason) (c : StateCause) (s : State) :
    (s.enterHalted r c).clock = s.clock ∧
    (s.enterHalted r c).channels = s.channels ∧
    (s.enterHalted r c).discards = s.discards ∧
    (s.enterHalted r c).routes = s.routes ∧
    (s.enterHalted r c).gens = s.gens ∧
    (s.enterHalted r c).cab = s.cab ∧
    (s.enterHalted r c).inReset = s.inReset ∧
    (s.enterHalted r c).choices = s.choices ∧
    (s.enterHalted r c).pending = s.pending ∧
    (s.enterHalted r c).ownTime = s.ownTime := by
  unfold State.enterHalted
  simp

@[simp] theorem State.notePort_frame (p : Port) (l : PortState) (c : PortCause) (s : State) :
    (s.notePort p l c).clock = s.clock ∧
    (s.notePort p l c).ctrl = s.ctrl ∧
    (s.notePort p l c).channels = s.channels ∧
    (s.notePort p l c).discards = s.discards ∧
    (s.notePort p l c).routes = s.routes ∧
    (s.notePort p l c).gens = s.gens ∧
    (s.notePort p l c).ports = s.ports ∧
    (s.notePort p l c).queue = s.queue ∧
    (s.notePort p l c).cab = s.cab ∧
    (s.notePort p l c).inReset = s.inReset ∧
    (s.notePort p l c).choices = s.choices ∧
    (s.notePort p l c).pending = s.pending ∧
    (s.notePort p l c).ownTime = s.ownTime := by
  unfold State.notePort
  repeat' split
  all_goals simp

@[simp] theorem State.notePorts_frame (o : Ports) (c : PortCause) (s : State) :
    (s.notePorts o c).clock = s.clock ∧
    (s.notePorts o c).ctrl = s.ctrl ∧
    (s.notePorts o c).channels = s.channels ∧
    (s.notePorts o c).discards = s.discards ∧
    (s.notePorts o c).routes = s.routes ∧
    (s.notePorts o c).gens = s.gens ∧
    (s.notePorts o c).ports = s.ports ∧
    (s.notePorts o c).queue = s.queue ∧
    (s.notePorts o c).cab = s.cab ∧
    (s.notePorts o c).inReset = s.inReset ∧
    (s.notePorts o c).choices = s.choices ∧
    (s.notePorts o c).pending = s.pending ∧
    (s.notePorts o c).ownTime = s.ownTime := by
  unfold State.notePorts
  simp

@[simp] theorem State.closePort_frame (p : Port) (s : State) :
    (s.closePort p).clock = s.clock ∧
    (s.closePort p).ctrl = s.ctrl ∧
    (s.closePort p).channels = s.channels ∧
    (s.closePort p).discards = s.discards ∧
    (s.closePort p).routes = s.routes ∧
    (s.closePort p).gens = s.gens ∧
    (s.closePort p).queue = s.queue ∧
    (s.closePort p).cab = s.cab ∧
    (s.closePort p).link = s.link ∧
    (s.closePort p).inReset = s.inReset ∧
    (s.closePort p).choices = s.choices ∧
    (s.closePort p).pending = s.pending ∧
    (s.closePort p).ownTime = s.ownTime := by
  unfold State.closePort
  dsimp only
  split <;> simp

@[simp] theorem State.clearCab_frame (s : State) :
    (s.clearCab).clock = s.clock ∧
    (s.clearCab).ctrl = s.ctrl ∧
    (s.clearCab).channels = s.channels ∧
    (s.clearCab).discards = s.discards ∧
    (s.clearCab).routes = s.routes ∧
    (s.clearCab).gens = s.gens ∧
    (s.clearCab).ports = s.ports ∧
    (s.clearCab).queue = s.queue ∧
    (s.clearCab).link = s.link ∧
    (s.clearCab).inReset = s.inReset ∧
    (s.clearCab).choices = s.choices ∧
    (s.clearCab).pending = s.pending ∧
    (s.clearCab).ownTime = s.ownTime := by
  unfold State.clearCab
  simp

@[simp] theorem State.clearDynamic_frame (s : State) :
    (s.clearDynamic).clock = s.clock ∧
    (s.clearDynamic).ctrl = s.ctrl ∧
    (s.clearDynamic).discards = s.discards ∧
    (s.clearDynamic).ports = s.ports ∧
    (s.clearDynamic).link = s.link ∧
    (s.clearDynamic).inReset = s.inReset ∧
    (s.clearDynamic).choices = s.choices ∧
    (s.clearDynamic).pending = s.pending ∧
    (s.clearDynamic).ownTime = s.ownTime := by
  unfold State.clearDynamic
  simp

@[simp] theorem State.enterSetup_frame (s : State) :
    (s.enterSetup).discards = s.discards ∧
    (s.enterSetup).inReset = s.inReset ∧
    (s.enterSetup).choices = s.choices ∧
    (s.enterSetup).pending = s.pending ∧
    (s.enterSetup).ownTime = s.ownTime := by
  unfold State.enterSetup
  simp

@[simp] theorem State.openPort_frame (p : Port) (s : State) :
    (s.openPort p).clock = s.clock ∧
    (s.openPort p).ctrl = s.ctrl ∧
    (s.openPort p).channels = s.channels ∧
    (s.openPort p).discards = s.discards ∧
    (s.openPort p).routes = s.routes ∧
    (s.openPort p).gens = s.gens ∧
    (s.openPort p).queue = s.queue ∧
    (s.openPort p).cab = s.cab ∧
    (s.openPort p).link = s.link ∧
    (s.openPort p).inReset = s.inReset ∧
    (s.openPort p).choices = s.choices ∧
    (s.openPort p).pending = s.pending ∧
    (s.openPort p).ownTime = s.ownTime := by
  unfold State.openPort
  dsimp only
  split <;> simp

@[simp] theorem State.enterArmed_frame (s : State) :
    (s.enterArmed).channels = s.channels ∧
    (s.enterArmed).discards = s.discards ∧
    (s.enterArmed).cab = s.cab ∧
    (s.enterArmed).inReset = s.inReset ∧
    (s.enterArmed).choices = s.choices ∧
    (s.enterArmed).pending = s.pending ∧
    (s.enterArmed).ownTime = s.ownTime := by
  unfold State.enterArmed
  simp

@[simp] theorem State.rampStep_frame (s : State) :
    (s.rampStep).clock = s.clock ∧
    (s.rampStep).channels = s.channels ∧
    (s.rampStep).discards = s.discards ∧
    (s.rampStep).routes = s.routes ∧
    (s.rampStep).gens = s.gens ∧
    (s.rampStep).inReset = s.inReset ∧
    (s.rampStep).choices = s.choices ∧
    (s.rampStep).pending = s.pending ∧
    (s.rampStep).ownTime = s.ownTime := by
  unfold State.rampStep
  dsimp only
  repeat' split
  all_goals simp

@[simp] theorem State.clockLost_frame (s : State) :
    (s.clockLost).clock = s.clock ∧
    (s.clockLost).channels = s.channels ∧
    (s.clockLost).discards = s.discards ∧
    (s.clockLost).routes = s.routes ∧
    (s.clockLost).gens = s.gens ∧
    (s.clockLost).cab = s.cab ∧
    (s.clockLost).inReset = s.inReset ∧
    (s.clockLost).choices = s.choices ∧
    (s.clockLost).pending = s.pending ∧
    (s.clockLost).ownTime = s.ownTime := by
  unfold State.clockLost
  repeat' split
  all_goals simp

@[simp] theorem State.losePort_frame (p : Port) (s : State) :
    (s.losePort p).clock = s.clock ∧
    (s.losePort p).ctrl = s.ctrl ∧
    (s.losePort p).channels = s.channels ∧
    (s.losePort p).discards = s.discards ∧
    (s.losePort p).routes = s.routes ∧
    (s.losePort p).gens = s.gens ∧
    (s.losePort p).cab = s.cab ∧
    (s.losePort p).inReset = s.inReset ∧
    (s.losePort p).choices = s.choices ∧
    (s.losePort p).pending = s.pending ∧
    (s.losePort p).ownTime = s.ownTime := by
  unfold State.losePort
  simp

@[simp] theorem State.portLost_frame (p : Port) (s : State) :
    (s.portLost p).clock = s.clock ∧
    (s.portLost p).channels = s.channels ∧
    (s.portLost p).discards = s.discards ∧
    (s.portLost p).routes = s.routes ∧
    (s.portLost p).gens = s.gens ∧
    (s.portLost p).cab = s.cab ∧
    (s.portLost p).inReset = s.inReset ∧
    (s.portLost p).choices = s.choices ∧
    (s.portLost p).pending = s.pending ∧
    (s.portLost p).ownTime = s.ownTime := by
  unfold State.portLost
  repeat' split
  all_goals simp

@[simp] theorem State.echoFrameStart_frame (p : Port) (s : State) :
    (s.echoFrameStart p).clock = s.clock ∧
    (s.echoFrameStart p).channels = s.channels ∧
    (s.echoFrameStart p).discards = s.discards ∧
    (s.echoFrameStart p).routes = s.routes ∧
    (s.echoFrameStart p).gens = s.gens ∧
    (s.echoFrameStart p).cab = s.cab ∧
    (s.echoFrameStart p).inReset = s.inReset ∧
    (s.echoFrameStart p).choices = s.choices ∧
    (s.echoFrameStart p).pending = s.pending ∧
    (s.echoFrameStart p).ownTime = s.ownTime := by
  unfold State.echoFrameStart
  dsimp only
  split <;> simp

@[simp] theorem State.relatency_frame (p : Port) (s : State) :
    (s.relatency p).clock = s.clock ∧
    (s.relatency p).ctrl = s.ctrl ∧
    (s.relatency p).channels = s.channels ∧
    (s.relatency p).discards = s.discards ∧
    (s.relatency p).routes = s.routes ∧
    (s.relatency p).gens = s.gens ∧
    (s.relatency p).cab = s.cab ∧
    (s.relatency p).inReset = s.inReset ∧
    (s.relatency p).choices = s.choices ∧
    (s.relatency p).pending = s.pending ∧
    (s.relatency p).ownTime = s.ownTime := by
  unfold State.relatency
  dsimp only
  split <;> simp

@[simp] theorem State.reguard_frame (p : Port) (s : State) :
    (s.reguard p).clock = s.clock ∧
    (s.reguard p).ctrl = s.ctrl ∧
    (s.reguard p).channels = s.channels ∧
    (s.reguard p).discards = s.discards ∧
    (s.reguard p).routes = s.routes ∧
    (s.reguard p).gens = s.gens ∧
    (s.reguard p).cab = s.cab ∧
    (s.reguard p).inReset = s.inReset ∧
    (s.reguard p).choices = s.choices ∧
    (s.reguard p).pending = s.pending ∧
    (s.reguard p).ownTime = s.ownTime := by
  unfold State.reguard
  simp

@[simp] theorem State.enterRunning_frame (p : Port) (s : State) :
    (s.enterRunning p).clock = s.clock ∧
    (s.enterRunning p).ctrl = s.ctrl ∧
    (s.enterRunning p).channels = s.channels ∧
    (s.enterRunning p).discards = s.discards ∧
    (s.enterRunning p).routes = s.routes ∧
    (s.enterRunning p).gens = s.gens ∧
    (s.enterRunning p).queue = s.queue ∧
    (s.enterRunning p).cab = s.cab ∧
    (s.enterRunning p).link = s.link ∧
    (s.enterRunning p).inReset = s.inReset ∧
    (s.enterRunning p).choices = s.choices ∧
    (s.enterRunning p).pending = s.pending ∧
    (s.enterRunning p).ownTime = s.ownTime := by
  unfold State.enterRunning
  repeat' split
  all_goals simp

@[simp] theorem State.handFrameStart_frame (s : State) :
    (s.handFrameStart).clock = s.clock ∧
    (s.handFrameStart).ctrl = s.ctrl ∧
    (s.handFrameStart).channels = s.channels ∧
    (s.handFrameStart).discards = s.discards ∧
    (s.handFrameStart).routes = s.routes ∧
    (s.handFrameStart).gens = s.gens ∧
    (s.handFrameStart).ports = s.ports ∧
    (s.handFrameStart).queue = s.queue ∧
    (s.handFrameStart).cab = s.cab ∧
    (s.handFrameStart).inReset = s.inReset ∧
    (s.handFrameStart).choices = s.choices ∧
    (s.handFrameStart).pending = s.pending ∧
    (s.handFrameStart).ownTime = s.ownTime := by
  unfold State.handFrameStart
  repeat' split
  all_goals simp

@[simp] theorem State.controllerFrameStart_frame (e : Bool) (s : State) :
    (s.controllerFrameStart e).clock = s.clock ∧
    (s.controllerFrameStart e).channels = s.channels ∧
    (s.controllerFrameStart e).discards = s.discards ∧
    (s.controllerFrameStart e).routes = s.routes ∧
    (s.controllerFrameStart e).gens = s.gens ∧
    (s.controllerFrameStart e).inReset = s.inReset ∧
    (s.controllerFrameStart e).choices = s.choices ∧
    (s.controllerFrameStart e).pending = s.pending ∧
    (s.controllerFrameStart e).ownTime = s.ownTime := by
  unfold State.controllerFrameStart
  repeat' split
  all_goals simp

@[simp] theorem State.recordAndStep_frame (e : Bool) (s : State) :
    (s.recordAndStep e).clock = s.clock ∧
    (s.recordAndStep e).channels = s.channels ∧
    (s.recordAndStep e).discards = s.discards ∧
    (s.recordAndStep e).routes = s.routes ∧
    (s.recordAndStep e).gens = s.gens ∧
    (s.recordAndStep e).inReset = s.inReset ∧
    (s.recordAndStep e).choices = s.choices ∧
    (s.recordAndStep e).pending = s.pending ∧
    (s.recordAndStep e).ownTime = s.ownTime := by
  unfold State.recordAndStep
  repeat' split
  all_goals simp

@[simp] theorem State.sourcesFrameStart_frame (r e : Bool) (s : State) :
    (s.sourcesFrameStart r e).clock = s.clock ∧
    (s.sourcesFrameStart r e).discards = s.discards ∧
    (s.sourcesFrameStart r e).routes = s.routes ∧
    (s.sourcesFrameStart r e).inReset = s.inReset ∧
    (s.sourcesFrameStart r e).choices = s.choices ∧
    (s.sourcesFrameStart r e).pending = s.pending ∧
    (s.sourcesFrameStart r e).ownTime = s.ownTime := by
  unfold State.sourcesFrameStart
  simp

@[simp] theorem State.schedulerFrameStart_frame (r : Bool) (p : Port) (s : State) :
    (s.schedulerFrameStart r p).clock = s.clock ∧
    (s.schedulerFrameStart r p).ctrl = s.ctrl ∧
    (s.schedulerFrameStart r p).channels = s.channels ∧
    (s.schedulerFrameStart r p).discards = s.discards ∧
    (s.schedulerFrameStart r p).routes = s.routes ∧
    (s.schedulerFrameStart r p).gens = s.gens ∧
    (s.schedulerFrameStart r p).queue = s.queue ∧
    (s.schedulerFrameStart r p).cab = s.cab ∧
    (s.schedulerFrameStart r p).link = s.link ∧
    (s.schedulerFrameStart r p).inReset = s.inReset ∧
    (s.schedulerFrameStart r p).choices = s.choices ∧
    (s.schedulerFrameStart r p).pending = s.pending ∧
    (s.schedulerFrameStart r p).ownTime = s.ownTime := by
  unfold State.schedulerFrameStart
  repeat' split
  all_goals simp

@[simp] theorem State.deliveryFrameStart_frame (r : Bool) (s : State) :
    (s.deliveryFrameStart r).clock = s.clock ∧
    (s.deliveryFrameStart r).ctrl = s.ctrl ∧
    (s.deliveryFrameStart r).channels = s.channels ∧
    (s.deliveryFrameStart r).discards = s.discards ∧
    (s.deliveryFrameStart r).gens = s.gens ∧
    (s.deliveryFrameStart r).cab = s.cab ∧
    (s.deliveryFrameStart r).inReset = s.inReset ∧
    (s.deliveryFrameStart r).choices = s.choices ∧
    (s.deliveryFrameStart r).pending = s.pending ∧
    (s.deliveryFrameStart r).ownTime = s.ownTime := by
  unfold State.deliveryFrameStart
  dsimp only
  split <;> simp

@[simp] theorem State.echoesOf_frame (ps : List Port) (s : State) :
    (ps.foldl (fun s p => s.echoFrameStart p) s).clock = s.clock ∧
    (ps.foldl (fun s p => s.echoFrameStart p) s).channels = s.channels ∧
    (ps.foldl (fun s p => s.echoFrameStart p) s).discards = s.discards ∧
    (ps.foldl (fun s p => s.echoFrameStart p) s).routes = s.routes ∧
    (ps.foldl (fun s p => s.echoFrameStart p) s).gens = s.gens ∧
    (ps.foldl (fun s p => s.echoFrameStart p) s).cab = s.cab ∧
    (ps.foldl (fun s p => s.echoFrameStart p) s).inReset = s.inReset ∧
    (ps.foldl (fun s p => s.echoFrameStart p) s).choices = s.choices ∧
    (ps.foldl (fun s p => s.echoFrameStart p) s).pending = s.pending ∧
    (ps.foldl (fun s p => s.echoFrameStart p) s).ownTime = s.ownTime := by
  induction ps generalizing s with
  | nil => simp
  | cons p ps ih => simpa using ih (s.echoFrameStart p)

@[simp] theorem State.echoesFrameStart_frame (s : State) :
    (s.echoesFrameStart).clock = s.clock ∧
    (s.echoesFrameStart).channels = s.channels ∧
    (s.echoesFrameStart).discards = s.discards ∧
    (s.echoesFrameStart).routes = s.routes ∧
    (s.echoesFrameStart).gens = s.gens ∧
    (s.echoesFrameStart).cab = s.cab ∧
    (s.echoesFrameStart).inReset = s.inReset ∧
    (s.echoesFrameStart).choices = s.choices ∧
    (s.echoesFrameStart).pending = s.pending ∧
    (s.echoesFrameStart).ownTime = s.ownTime := by
  unfold State.echoesFrameStart
  simp

@[simp] theorem State.nextChoice_frame (s : State) :
    (s.nextChoice).clock = s.clock ∧
    (s.nextChoice).ctrl = s.ctrl ∧
    (s.nextChoice).channels = s.channels ∧
    (s.nextChoice).discards = s.discards ∧
    (s.nextChoice).routes = s.routes ∧
    (s.nextChoice).gens = s.gens ∧
    (s.nextChoice).ports = s.ports ∧
    (s.nextChoice).queue = s.queue ∧
    (s.nextChoice).cab = s.cab ∧
    (s.nextChoice).link = s.link ∧
    (s.nextChoice).inReset = s.inReset ∧
    (s.nextChoice).pending = s.pending ∧
    (s.nextChoice).ownTime = s.ownTime := by
  unfold State.nextChoice
  simp

@[simp] theorem State.frameStart_frame (s : State) :
    (s.frameStart).discards = s.discards ∧
    (s.frameStart).inReset = s.inReset ∧
    (s.frameStart).pending = s.pending ∧
    (s.frameStart).ownTime = s.ownTime := by
  unfold State.frameStart
  dsimp only
  split <;> simp

@[simp] theorem State.settleFrame_frame (s : State) :
    (s.settleFrame).discards = s.discards ∧
    (s.settleFrame).inReset = s.inReset ∧
    (s.settleFrame).pending = s.pending ∧
    (s.settleFrame).ownTime = s.ownTime := by
  unfold State.settleFrame
  repeat' split
  all_goals simp

@[simp] theorem State.edge_frame (s : State) :
    (s.edge).discards = s.discards ∧
    (s.edge).inReset = s.inReset ∧
    (s.edge).pending = s.pending ∧
    (s.edge).ownTime = s.ownTime := by
  unfold State.edge
  dsimp only
  repeat' split
  all_goals simp

@[simp] theorem State.edgeFrom_frame (c : ClockSource) (s : State) :
    (s.edgeFrom c).discards = s.discards ∧
    (s.edgeFrom c).inReset = s.inReset ∧
    (s.edgeFrom c).pending = s.pending ∧
    (s.edgeFrom c).ownTime = s.ownTime := by
  unfold State.edgeFrom
  dsimp only
  split <;> simp

@[simp] theorem State.writeStamp_frame (x : StampSource) (e : EdgeKind) (t : Instant) (s : State) :
    (s.writeStamp x e t).clock = s.clock ∧
    (s.writeStamp x e t).ctrl = s.ctrl ∧
    (s.writeStamp x e t).channels = s.channels ∧
    (s.writeStamp x e t).discards = s.discards ∧
    (s.writeStamp x e t).routes = s.routes ∧
    (s.writeStamp x e t).gens = s.gens ∧
    (s.writeStamp x e t).ports = s.ports ∧
    (s.writeStamp x e t).queue = s.queue ∧
    (s.writeStamp x e t).inReset = s.inReset ∧
    (s.writeStamp x e t).choices = s.choices ∧
    (s.writeStamp x e t).pending = s.pending ∧
    (s.writeStamp x e t).ownTime = s.ownTime := by
  unfold State.writeStamp
  dsimp only
  repeat' split
  all_goals simp

@[simp] theorem State.takeLine_frame (o n : Word) (t : Instant) (s : State) (i : Fin 16) :
    (s.takeLine o n t i).clock = s.clock ∧
    (s.takeLine o n t i).ctrl = s.ctrl ∧
    (s.takeLine o n t i).channels = s.channels ∧
    (s.takeLine o n t i).discards = s.discards ∧
    (s.takeLine o n t i).routes = s.routes ∧
    (s.takeLine o n t i).ports = s.ports ∧
    (s.takeLine o n t i).queue = s.queue ∧
    (s.takeLine o n t i).inReset = s.inReset ∧
    (s.takeLine o n t i).choices = s.choices ∧
    (s.takeLine o n t i).pending = s.pending ∧
    (s.takeLine o n t i).ownTime = s.ownTime := by
  unfold State.takeLine
  dsimp only
  repeat' split
  all_goals simp

@[simp] theorem State.takeLines_frame (o n : Word) (t : Instant) (is : List (Fin 16)) (s : State) :
    (is.foldl (State.takeLine o n t) s).clock = s.clock ∧
    (is.foldl (State.takeLine o n t) s).ctrl = s.ctrl ∧
    (is.foldl (State.takeLine o n t) s).channels = s.channels ∧
    (is.foldl (State.takeLine o n t) s).discards = s.discards ∧
    (is.foldl (State.takeLine o n t) s).routes = s.routes ∧
    (is.foldl (State.takeLine o n t) s).ports = s.ports ∧
    (is.foldl (State.takeLine o n t) s).queue = s.queue ∧
    (is.foldl (State.takeLine o n t) s).inReset = s.inReset ∧
    (is.foldl (State.takeLine o n t) s).choices = s.choices ∧
    (is.foldl (State.takeLine o n t) s).pending = s.pending ∧
    (is.foldl (State.takeLine o n t) s).ownTime = s.ownTime := by
  induction is generalizing s with
  | nil => simp
  | cons i is ih => simpa using ih (s.takeLine o n t i)

@[simp] theorem State.takeResume_frame (s : State) (i : Fin 4) :
    (s.takeResume i).clock = s.clock ∧
    (s.takeResume i).channels = s.channels ∧
    (s.takeResume i).discards = s.discards ∧
    (s.takeResume i).routes = s.routes ∧
    (s.takeResume i).gens = s.gens ∧
    (s.takeResume i).ports = s.ports ∧
    (s.takeResume i).queue = s.queue ∧
    (s.takeResume i).cab = s.cab ∧
    (s.takeResume i).inReset = s.inReset ∧
    (s.takeResume i).choices = s.choices ∧
    (s.takeResume i).pending = s.pending ∧
    (s.takeResume i).ownTime = s.ownTime := by
  unfold State.takeResume
  repeat' split
  all_goals simp

@[simp] theorem State.takeResumes_frame (is : List (Fin 4)) (s : State) :
    (is.foldl State.takeResume s).clock = s.clock ∧
    (is.foldl State.takeResume s).channels = s.channels ∧
    (is.foldl State.takeResume s).discards = s.discards ∧
    (is.foldl State.takeResume s).routes = s.routes ∧
    (is.foldl State.takeResume s).gens = s.gens ∧
    (is.foldl State.takeResume s).ports = s.ports ∧
    (is.foldl State.takeResume s).queue = s.queue ∧
    (is.foldl State.takeResume s).cab = s.cab ∧
    (is.foldl State.takeResume s).inReset = s.inReset ∧
    (is.foldl State.takeResume s).choices = s.choices ∧
    (is.foldl State.takeResume s).pending = s.pending ∧
    (is.foldl State.takeResume s).ownTime = s.ownTime := by
  induction is generalizing s with
  | nil => simp
  | cons i is ih => simpa using ih (s.takeResume i)

@[simp] theorem State.evaluateConditions_frame (o n : Word) (s : State) :
    (s.evaluateConditions o n).clock = s.clock ∧
    (s.evaluateConditions o n).channels = s.channels ∧
    (s.evaluateConditions o n).discards = s.discards ∧
    (s.evaluateConditions o n).routes = s.routes ∧
    (s.evaluateConditions o n).gens = s.gens ∧
    (s.evaluateConditions o n).ports = s.ports ∧
    (s.evaluateConditions o n).queue = s.queue ∧
    (s.evaluateConditions o n).inReset = s.inReset ∧
    (s.evaluateConditions o n).choices = s.choices ∧
    (s.evaluateConditions o n).pending = s.pending ∧
    (s.evaluateConditions o n).ownTime = s.ownTime := by
  unfold State.evaluateConditions
  dsimp only
  split <;> simp

@[simp] theorem State.takeInput_frame (n : Word) (t : Instant) (s : State) :
    (s.takeInput n t).clock = s.clock ∧
    (s.takeInput n t).channels = s.channels ∧
    (s.takeInput n t).discards = s.discards ∧
    (s.takeInput n t).routes = s.routes ∧
    (s.takeInput n t).ports = s.ports ∧
    (s.takeInput n t).queue = s.queue ∧
    (s.takeInput n t).inReset = s.inReset ∧
    (s.takeInput n t).choices = s.choices ∧
    (s.takeInput n t).pending = s.pending ∧
    (s.takeInput n t).ownTime = s.ownTime := by
  unfold State.takeInput
  simp

@[simp] theorem State.takeEchoReply_frame (p : Port) (a : Instant) (n d t : Word) (s : State) :
    (s.takeEchoReply p a n d t).clock = s.clock ∧
    (s.takeEchoReply p a n d t).ctrl = s.ctrl ∧
    (s.takeEchoReply p a n d t).channels = s.channels ∧
    (s.takeEchoReply p a n d t).discards = s.discards ∧
    (s.takeEchoReply p a n d t).gens = s.gens ∧
    (s.takeEchoReply p a n d t).cab = s.cab ∧
    (s.takeEchoReply p a n d t).inReset = s.inReset ∧
    (s.takeEchoReply p a n d t).choices = s.choices ∧
    (s.takeEchoReply p a n d t).pending = s.pending ∧
    (s.takeEchoReply p a n d t).ownTime = s.ownTime := by
  unfold State.takeEchoReply
  dsimp only
  split
  · simp
  · split <;> simp

@[simp] theorem State.takePresented_frame (p : Port) (a : Instant) (f : Frame) (s : State) :
    (s.takePresented p a f).clock = s.clock ∧
    (s.takePresented p a f).ctrl = s.ctrl ∧
    (s.takePresented p a f).channels = s.channels ∧
    (s.takePresented p a f).discards = s.discards ∧
    (s.takePresented p a f).gens = s.gens ∧
    (s.takePresented p a f).cab = s.cab ∧
    (s.takePresented p a f).inReset = s.inReset ∧
    (s.takePresented p a f).choices = s.choices ∧
    (s.takePresented p a f).pending = s.pending ∧
    (s.takePresented p a f).ownTime = s.ownTime := by
  unfold State.takePresented
  split <;> simp

@[simp] theorem State.countRxError_frame (p : Port) (s : State) :
    (s.countRxError p).clock = s.clock ∧
    (s.countRxError p).ctrl = s.ctrl ∧
    (s.countRxError p).channels = s.channels ∧
    (s.countRxError p).discards = s.discards ∧
    (s.countRxError p).routes = s.routes ∧
    (s.countRxError p).gens = s.gens ∧
    (s.countRxError p).queue = s.queue ∧
    (s.countRxError p).cab = s.cab ∧
    (s.countRxError p).link = s.link ∧
    (s.countRxError p).inReset = s.inReset ∧
    (s.countRxError p).choices = s.choices ∧
    (s.countRxError p).pending = s.pending ∧
    (s.countRxError p).ownTime = s.ownTime := by
  unfold State.countRxError
  simp

@[simp] theorem State.takeReport_frame (p : Port) (a : Instant) (ws : List Word) (s : State) :
    (s.takeReport p a ws).clock = s.clock ∧
    (s.takeReport p a ws).channels = s.channels ∧
    (s.takeReport p a ws).discards = s.discards ∧
    (s.takeReport p a ws).inReset = s.inReset ∧
    (s.takeReport p a ws).choices = s.choices ∧
    (s.takeReport p a ws).pending = s.pending ∧
    (s.takeReport p a ws).ownTime = s.ownTime := by
  unfold State.takeReport
  repeat' split
  all_goals simp

@[simp] theorem State.judgeReport_frame (p : Port) (r : Inbound) (s : State) :
    (s.judgeReport p r).clock = s.clock ∧
    (s.judgeReport p r).channels = s.channels ∧
    (s.judgeReport p r).discards = s.discards ∧
    (s.judgeReport p r).inReset = s.inReset ∧
    (s.judgeReport p r).choices = s.choices ∧
    (s.judgeReport p r).pending = s.pending ∧
    (s.judgeReport p r).ownTime = s.ownTime := by
  unfold State.judgeReport
  repeat' split
  all_goals simp

@[simp] theorem State.takeWord_frame (p : Port) (a : Instant) (w : Word) (s : State) :
    (s.takeWord p a w).clock = s.clock ∧
    (s.takeWord p a w).channels = s.channels ∧
    (s.takeWord p a w).discards = s.discards ∧
    (s.takeWord p a w).inReset = s.inReset ∧
    (s.takeWord p a w).choices = s.choices ∧
    (s.takeWord p a w).pending = s.pending ∧
    (s.takeWord p a w).ownTime = s.ownTime := by
  unfold State.takeWord
  dsimp only
  repeat' split
  all_goals simp

/-- A report's words, each taken if the port hears it, move what a word moves. -/
theorem State.takeWordList_frame (p : Port) (span n : Nat) (ws : List (Word × Nat)) (s : State) :
    let t := ws.foldl
      (fun s x =>
        let age := State.wordAge span n x.2
        if s.hears p age then s.takeWord p (s.now - micro age) x.1 else s) s
    t.clock = s.clock ∧ t.channels = s.channels ∧ t.discards = s.discards ∧ t.inReset = s.inReset ∧
      t.choices = s.choices ∧ t.pending = s.pending ∧ t.ownTime = s.ownTime := by
  induction ws generalizing s with
  | nil => simp
  | cons w ws ih =>
    simp only [List.foldl_cons]
    split
    · simpa using ih (s.takeWord p (s.now - micro (State.wordAge span n w.2)) w.1)
    · exact ih s

@[simp] theorem State.takeWords_frame (p : Port) (n : Nat) (ws : List Word) (s : State) :
    (s.takeWords p n ws).clock = s.clock ∧
    (s.takeWords p n ws).channels = s.channels ∧
    (s.takeWords p n ws).discards = s.discards ∧
    (s.takeWords p n ws).inReset = s.inReset ∧
    (s.takeWords p n ws).choices = s.choices ∧
    (s.takeWords p n ws).pending = s.pending ∧
    (s.takeWords p n ws).ownTime = s.ownTime :=
  State.takeWordList_frame p n ws.length ws.zipIdx s

@[simp] theorem State.takeSummed_frame (p : Port) (n : Nat) (ws : List Word) (s : State) :
    (s.takeSummed p n ws).clock = s.clock ∧
    (s.takeSummed p n ws).channels = s.channels ∧
    (s.takeSummed p n ws).discards = s.discards ∧
    (s.takeSummed p n ws).inReset = s.inReset ∧
    (s.takeSummed p n ws).choices = s.choices ∧
    (s.takeSummed p n ws).pending = s.pending ∧
    (s.takeSummed p n ws).ownTime = s.ownTime := by
  unfold State.takeSummed
  simp

end Sys2Proof.Machine
end

