-- ==== Sys2Proof/Laws/PerInstr.lean ====
section
/-! SUPPORT. A property of every command by its fields: the record that a well-formed request row stands for
fits the envelope, and has the LEN that 11.1 gives its KIND. One lemma for each constructor. -/

namespace Sys2Proof.Laws.Envelope

open Sys2Proof.Machine

/-- The payload of the row's record is at most 250 bytes, and as long as its KIND says (11.1). -/
def Statement (i : Instr) : Prop :=
  i.wellFormed = true →
    ∀ kind tag payload, recordOf i = some (kind, tag, payload) →
      payload.length ≤ 250 ∧ ∀ n, requestLength kind = some n → payload.length = n

/-- A row that is no record has nothing to fit. -/
theorem of_no_record {i : Instr} (h : recordOf i = none) : Statement i := by
  intro _ kind tag payload hr
  rw [h] at hr
  cases hr

/-- A row whose record has a fixed KIND and payload length. -/
theorem of_record {i : Instr} {kind tag : Byte} {payload : List Byte} {n : Nat}
    (h : recordOf i = some (kind, tag, payload)) (hk : requestLength kind = some n)
    (hn : payload.length = n) (h250 : n ≤ 250) : Statement i := by
  intro _ k t p hr
  rw [h] at hr
  cases hr
  refine ⟨hn ▸ h250, fun m hm => ?_⟩
  rw [hk] at hm
  cases hm
  exact hn

theorem powerOn (spd1 : Bool) (spd0 : Bool) :
    Statement (.powerOn spd1 spd0) :=
  of_no_record rfl

theorem reset (dt : Nat) :
    Statement (.reset dt) :=
  of_no_record rfl

theorem frameStart : Statement .frameStart :=
  of_no_record rfl

theorem fsync (dt : Nat) :
    Statement (.fsync dt) :=
  of_no_record rfl

theorem frameMark (dt : Nat) :
    Statement (.frameMark dt) := by
  intro _ kind tag payload hr
  cases hr
  exact ⟨by decide, fun n hn => by cases hn⟩

theorem misses : Statement .misses :=
  of_no_record rfl

theorem holdoverExpired : Statement .holdoverExpired :=
  of_no_record rfl

theorem setClock (dt : Nat) (tag : Byte) (q : ClockRequest) :
    Statement (.setClock dt tag q) :=
  of_record rfl rfl rfl (by decide)

theorem cmdNone (dt : Nat) (tag : Byte) (q : RampRequest) :
    Statement (.cmdNone dt tag q) :=
  of_record rfl rfl rfl (by decide)

theorem setup (dt : Nat) (tag : Byte) (q : RampRequest) :
    Statement (.setup dt tag q) :=
  of_record rfl rfl rfl (by decide)

theorem arm (dt : Nat) (tag : Byte) (q : RampRequest) :
    Statement (.arm dt tag q) :=
  of_record rfl rfl rfl (by decide)

theorem go (dt : Nat) (tag : Byte) (q : RampRequest) :
    Statement (.go dt tag q) :=
  of_record rfl rfl rfl (by decide)

theorem pause (dt : Nat) (tag : Byte) (q : RampRequest) :
    Statement (.pause dt tag q) :=
  of_record rfl rfl rfl (by decide)

theorem resume (dt : Nat) (tag : Byte) (q : RampRequest) :
    Statement (.resume dt tag q) :=
  of_record rfl rfl rfl (by decide)

theorem halt (dt : Nat) (tag : Byte) (q : RampRequest) :
    Statement (.halt dt tag q) :=
  of_record rfl rfl rfl (by decide)

theorem samples (dt : Nat) (frame : Frame) (offset : Word) (pairs : List (Byte × Cue)) :
    Statement (.samples dt frame offset pairs) := by
  intro hw kind tag payload hr
  have hp : pairs.length ≤ 48 := by
    simp [Instr.wellFormed, Instr.fieldsFit] at hw
    exact hw.2.2
  have hl : (pairs.flatMap (fun x : Byte × Cue => x.1 :: bytesOf x.2)).length = 3 * pairs.length := by
    clear hw hr hp
    induction pairs with
    | nil => rfl
    | cons x xs ih => simp [bytesOf] at ih ⊢; omega
  cases hr
  refine ⟨?_, fun n hn => ?_⟩
  · simp only [samplesPayload, List.length_append, List.length_cons, hl]
    simp [bytesOf]
    omega
  · cases hn

theorem staleEntry (channel : Fin 48) :
    Statement (.staleEntry channel) :=
  of_no_record rfl

theorem setChannel (dt : Nat) (tag : Byte) (q : ChannelRequest) :
    Statement (.setChannel dt tag q) :=
  of_record rfl rfl rfl (by decide)

theorem setRoute (dt : Nat) (tag : Byte) (q : RouteRequest) :
    Statement (.setRoute dt tag q) :=
  of_record rfl rfl rfl (by decide)

theorem clearRoute (dt : Nat) (tag : Byte) (route : Byte) :
    Statement (.clearRoute dt tag route) :=
  of_record rfl rfl rfl (by decide)

theorem getRoute (dt : Nat) (tag : Byte) (route : Byte) :
    Statement (.getRoute dt tag route) :=
  of_record rfl rfl rfl (by decide)

theorem setGenerator (dt : Nat) (tag : Byte) (q : GeneratorRequest) :
    Statement (.setGenerator dt tag q) :=
  of_record rfl rfl rfl (by decide)

theorem startGenerator (dt : Nat) (tag : Byte) (generator : Byte) :
    Statement (.startGenerator dt tag generator) :=
  of_record rfl rfl rfl (by decide)

theorem stopGenerator (dt : Nat) (tag : Byte) (generator : Byte) :
    Statement (.stopGenerator dt tag generator) :=
  of_record rfl rfl rfl (by decide)

theorem pulseEnd (generator : Fin 4) :
    Statement (.pulseEnd generator) :=
  of_no_record rfl

theorem setPort (dt : Nat) (tag : Byte) (q : PortRequest) :
    Statement (.setPort dt tag q) :=
  of_record rfl rfl rfl (by decide)

theorem getPort (dt : Nat) (tag : Byte) (port : Byte) :
    Statement (.getPort dt tag port) :=
  of_record rfl rfl rfl (by decide)

theorem release (port : Port) :
    Statement (.release port) :=
  of_no_record rfl

theorem skip (port : Port) :
    Statement (.skip port) :=
  of_no_record rfl

theorem partialEnd (port : Port) :
    Statement (.partialEnd port) :=
  of_no_record rfl

theorem packetComplete (port : Port) :
    Statement (.packetComplete port) :=
  of_no_record rfl

theorem waitAssert (dt : Nat) (port : Port) :
    Statement (.waitAssert dt port) :=
  of_no_record rfl

theorem waitRelease (dt : Nat) (port : Port) :
    Statement (.waitRelease dt port) :=
  of_no_record rfl

theorem abortAssert (dt : Nat) (port : Port) :
    Statement (.abortAssert dt port) :=
  of_no_record rfl

theorem abortRelease (dt : Nat) (port : Port) :
    Statement (.abortRelease dt port) :=
  of_no_record rfl

theorem echoInterval (port : Port) :
    Statement (.echoInterval port) :=
  of_no_record rfl

theorem echoReply (dt : Nat) (port : Port) (span : Nat) (number : Word) (delay : Word) (turnaround : Word) :
    Statement (.echoReply dt port span number delay turnaround) :=
  of_no_record rfl

theorem echoMissed (port : Port) :
    Statement (.echoMissed port) :=
  of_no_record rfl

theorem presented (dt : Nat) (port : Port) (span : Nat) (frame : Frame) :
    Statement (.presented dt port span frame) :=
  of_no_record rfl

theorem input (dt : Nat) (port : Port) (span : Nat) (lines : Word) :
    Statement (.input dt port span lines) :=
  of_no_record rfl

theorem discardedKindWord (dt : Nat) (port : Port) (word : Word) :
    Statement (.discardedKindWord dt port word) :=
  of_no_record rfl

theorem setTriggers (dt : Nat) (tag : Byte) (q : TriggersRequest) :
    Statement (.setTriggers dt tag q) :=
  of_record (n := 18) rfl rfl (by simp [triggersPayload, bytesOf]) (by decide)

theorem setResume (dt : Nat) (tag : Byte) (q : ResumeRequest) :
    Statement (.setResume dt tag q) :=
  of_record (n := 9) rfl rfl (by simp [resumePayload, List.length_flatMap]) (by decide)

theorem stampNow (dt : Nat) (tag : Byte) :
    Statement (.stampNow dt tag) :=
  of_record rfl rfl rfl (by decide)

theorem readStamps (dt : Nat) (tag : Byte) (count : Byte) :
    Statement (.readStamps dt tag count) :=
  of_record rfl rfl rfl (by decide)

theorem eventPost (dt : Nat) (tag : Byte) (q : PostRequest) :
    Statement (.eventPost dt tag q) :=
  of_record rfl rfl rfl (by decide)

theorem destinationRelease (eventTag : Byte) (port : Port) :
    Statement (.destinationRelease eventTag port) :=
  of_no_record rfl

theorem missed (eventTag : Byte) (port : Port) :
    Statement (.missed eventTag port) :=
  of_no_record rfl

theorem eventCancel (dt : Nat) (tag : Byte) (eventTag : Byte) :
    Statement (.eventCancel dt tag eventTag) :=
  of_record rfl rfl rfl (by decide)

theorem readOutcomes (dt : Nat) (tag : Byte) (count : Byte) :
    Statement (.readOutcomes dt tag count) :=
  of_record rfl rfl rfl (by decide)

theorem getStatus (dt : Nat) (tag : Byte) :
    Statement (.getStatus dt tag) :=
  of_record rfl rfl rfl (by decide)

theorem unknownKind (dt : Nat) (kind : Byte) (tag : Byte) (payload : List Byte) :
    Statement (.unknownKind dt kind tag payload) := by
  intro hw k t p hr
  simp [Instr.wellFormed, Instr.fieldsFit] at hw
  cases hr
  refine ⟨hw.2.2, fun n hn => ?_⟩
  have hk := hw.2.1
  simp [namesRequest] at hk
  unfold requestLength at hn
  split at hn <;> first | (cases hn; done) | omega

theorem candidateFails (dt : Nat) (data : Byte) (framingError : Bool) :
    Statement (.candidateFails dt data framingError) :=
  of_no_record rfl

theorem gap : Statement .gap :=
  of_no_record rfl

theorem recordSent (dt : Nat) :
    Statement (.recordSent dt) :=
  of_no_record rfl

theorem byteReceived (dt : Nat) (data : Byte) (framingError : Bool) :
    Statement (.byteReceived dt data framingError) :=
  of_no_record rfl

theorem reportBadSum (dt : Nat) (port : Port) (span : Nat) (words : List Word) (sum : Word) :
    Statement (.reportBadSum dt port span words sum) :=
  of_no_record rfl

theorem payloadBeatEnd (port : Port) :
    Statement (.payloadBeatEnd port) :=
  of_no_record rfl

end Sys2Proof.Laws.Envelope
end

