-- ==== Sys2Proof/Laws/Steps.lean ====
section
/-! SUPPORT. What the shared operations of commands do: the link and its replies, the answer to a request,
the passing of time, the rows of own events, and the step. -/

namespace Sys2Proof.Machine

/-! ### The link -/

@[simp] theorem Link.arbitrate_replies (now : Instant) (l : Link) :
    (l.arbitrate now).replies = l.replies := by
  unfold Link.arbitrate
  repeat' split
  all_goals rfl

@[simp] theorem Link.kick_replies (now : Instant) (l : Link) : (l.kick now).replies = l.replies := by
  unfold Link.kick
  split <;> simp

/-- The arbiter moves the slots, the transmitter and its start alone. -/
@[simp] theorem Link.arbitrate_frame (now : Instant) (l : Link) :
    (l.arbitrate now).rate = l.rate ∧ (l.arbitrate now).framer = l.framer ∧
    (l.arbitrate now).linkErrors = l.linkErrors ∧ (l.arbitrate now).overruns = l.overruns := by
  unfold Link.arbitrate
  repeat' split
  all_goals exact ⟨rfl, rfl, rfl, rfl⟩

/-- A busy transmitter is left alone. -/
theorem Link.kick_of_busy {now : Instant} {l : Link} (h : l.tx ≠ .idle) : l.kick now = l := by
  simp [Link.kick, h]

/-- A reply joins the tail of the queue, whatever the transmitter does (R179). -/
@[simp] theorem State.pushReply_replies (s : State) (r : Reply) :
    (s.pushReply r).link.replies = s.link.replies ++ [r] := by
  simp [State.pushReply]

@[simp] theorem State.withFramer_frame (s : State) (fr : Framer) :
    (s.withFramer fr).clock = s.clock ∧ (s.withFramer fr).ctrl = s.ctrl ∧
    (s.withFramer fr).channels = s.channels ∧ (s.withFramer fr).discards = s.discards ∧
    (s.withFramer fr).routes = s.routes ∧ (s.withFramer fr).gens = s.gens ∧
    (s.withFramer fr).ports = s.ports ∧ (s.withFramer fr).queue = s.queue ∧
    (s.withFramer fr).cab = s.cab ∧ (s.withFramer fr).inReset = s.inReset ∧
    (s.withFramer fr).choices = s.choices ∧ (s.withFramer fr).pending = s.pending ∧
    (s.withFramer fr).ownTime = s.ownTime := by
  simp [State.withFramer]

@[simp] theorem State.closeRecord_frame (s : State) :
    s.closeRecord.clock = s.clock ∧ s.closeRecord.ctrl = s.ctrl ∧
    s.closeRecord.channels = s.channels ∧ s.closeRecord.discards = s.discards ∧
    s.closeRecord.routes = s.routes ∧ s.closeRecord.gens = s.gens ∧
    s.closeRecord.ports = s.ports ∧ s.closeRecord.queue = s.queue ∧
    s.closeRecord.cab = s.cab ∧ s.closeRecord.inReset = s.inReset ∧
    s.closeRecord.choices = s.choices ∧ s.closeRecord.pending = s.pending ∧
    s.closeRecord.ownTime = s.ownTime := by
  simp [State.closeRecord]

@[simp] theorem State.closeRecord_replies (s : State) :
    s.closeRecord.link.replies = s.link.replies := rfl

@[simp] theorem State.beginByte_frame (s : State) :
    s.beginByte.clock = s.clock ∧ s.beginByte.ctrl = s.ctrl ∧
    s.beginByte.channels = s.channels ∧ s.beginByte.discards = s.discards ∧
    s.beginByte.routes = s.routes ∧ s.beginByte.gens = s.gens ∧
    s.beginByte.ports = s.ports ∧ s.beginByte.queue = s.queue ∧
    s.beginByte.cab = s.cab ∧ s.beginByte.inReset = s.inReset ∧
    s.beginByte.choices = s.choices ∧ s.beginByte.pending = s.pending ∧
    s.beginByte.ownTime = s.ownTime := by
  simp [State.beginByte]

/-- The end of a record moves the link alone. -/
@[simp] theorem State.sentRecord_frame (s : State) :
    s.sentRecord.clock = s.clock ∧ s.sentRecord.ctrl = s.ctrl ∧
    s.sentRecord.channels = s.channels ∧ s.sentRecord.discards = s.discards ∧
    s.sentRecord.routes = s.routes ∧ s.sentRecord.gens = s.gens ∧
    s.sentRecord.ports = s.ports ∧ s.sentRecord.queue = s.queue ∧
    s.sentRecord.cab = s.cab ∧ s.sentRecord.inReset = s.inReset ∧
    s.sentRecord.choices = s.choices ∧ s.sentRecord.pending = s.pending ∧
    s.sentRecord.ownTime = s.ownTime := by
  simp [State.sentRecord]

/-! ### Answers -/

/-- With room in the reply queue the owner acts and the reply joins the queue (R178). -/
theorem answer_of_room {s : State} (kind tag : Byte) (owner : State → Answer)
    (h : s.link.replies.length < 8) :
    answer kind tag owner s =
      (owner s).state.pushReply ⟨replyKind kind, tag, (owner s).result, (owner s).body⟩ := by
  simp [answer, Config.replyQueueSize, Nat.not_le.mpr h]

/-- With 8 replies queued only the overrun count moves (R179). -/
theorem answer_of_full {s : State} (kind tag : Byte) (owner : State → Answer)
    (h : 8 ≤ s.link.replies.length) :
    answer kind tag owner s =
      s.withLink { s.link with overruns := countUp 65535 1 s.link.overruns } := by
  simp [answer, Config.replyQueueSize, h]

/-! ### HUB_COMMAND -/

theorem State.hubCommand_of_accepted {s : State} {q : RampRequest} {accepts : HubState → Bool}
    {check : State → Option (Result × HubDetail)} (act : State → State)
    (hm : maskFits q.mask 2 = true) (ha : accepts s.ctrl.st = true) (hc : check s = none) :
    s.hubCommand q accepts check act =
      ⟨act (s.writeRamps q), .ok, (act (s.writeRamps q)).hubBody .none⟩ := by
  simp [State.hubCommand, hm, ha, hc]

theorem State.hubCommand_of_wrongState {s : State} {q : RampRequest} {accepts : HubState → Bool}
    (check : State → Option (Result × HubDetail)) (act : State → State)
    (hm : maskFits q.mask 2 = true) (ha : accepts s.ctrl.st = false) :
    s.hubCommand q accepts check act = ⟨s, .wrongState, s.hubBody .none⟩ := by
  simp [State.hubCommand, hm, ha]

/-! ### Time -/

@[simp] theorem State.passFor_zero (s : State) : s.passFor 0 = s := rfl

/-- No time passes when the rows of own events have taken it already. -/
theorem State.waitFor_of_le {s : State} (span : Nat) {dt : Nat} (h : dt ≤ s.ownTime) :
    s.waitFor span dt = s := by
  simp [State.waitFor, Nat.sub_eq_zero_of_le h]

/-- A command whose time has passed already is taken at once, and the next one counts from now. -/
theorem State.elapse_of_le {s : State} {dt : Nat} (hr : s.inReset = false) (h : dt ≤ s.ownTime) :
    s.elapse dt = s.withOwnTime 0 := by
  simp [State.elapse, hr, State.waitFor_of_le dt h]

theorem State.elapse_of_inReset {s : State} (dt : Nat) (h : s.inReset = true) : s.elapse dt = s := by
  simp [State.elapse, h]

/-- Foreseeing a start bit moves the framer's mark of it and nothing else. -/
theorem State.foresee_cases (s : State) (target : Instant) (span : Nat) :
    s.foresee target span = s ∨ s.foresee target span = s.beginByte := by
  unfold State.foresee
  repeat' split
  all_goals first | exact .inl rfl | exact .inr rfl

/-- Nothing is foreseen where no own event comes before the target. -/
theorem State.foresee_of_next {s : State} {t : Instant} (span : Nat) (hn : s.nextOwn t = none) :
    s.foresee t span = s := by
  unfold State.foresee
  split
  · rename_i g hg
    split
    · rename_i hp
      have hm : (g, OwnEvent.gap) ∈ s.ownEvents.filterMap (fun e => (s.instantOf e).bind
          (fun u => if past u t then some (u, e) else none)) := by
        refine List.mem_filterMap.mpr ⟨.gap, ?_, ?_⟩
        · simp [State.ownEvents]
        · simp [hg, (Bool.and_eq_true_iff.mp hp).1]
      unfold State.nextOwn at hn
      simp only at hn
      split at hn
      · rename_i he
        rw [he] at hm
        cases hm
      · cases hn
    · rfl
  · rfl

theorem outside_of_inReset {s : State} (dt : Nat) (act : State → State) (h : s.inReset = true) :
    outside dt act s = s := by
  simp [outside, h]

theorem outside_of_running {s : State} (dt : Nat) (act : State → State) (h : s.inReset = false) :
    outside dt act s = act (s.elapse dt) := by
  simp [outside, h]

@[simp] theorem State.advanceTo_frame (s : State) (t : Instant) :
    (s.advanceTo t).ctrl = s.ctrl ∧ (s.advanceTo t).channels = s.channels ∧
    (s.advanceTo t).discards = s.discards ∧ (s.advanceTo t).routes = s.routes ∧
    (s.advanceTo t).gens = s.gens ∧ (s.advanceTo t).ports = s.ports ∧
    (s.advanceTo t).queue = s.queue ∧ (s.advanceTo t).cab = s.cab ∧ (s.advanceTo t).link = s.link ∧
    (s.advanceTo t).inReset = s.inReset ∧ (s.advanceTo t).choices = s.choices ∧
    (s.advanceTo t).pending = s.pending ∧
    (s.advanceTo t).ownTime = s.ownTime := by
  unfold State.advanceTo
  split <;> simp

theorem eq_of_diff_eq_zero {t now : Instant} (h : diff t now = 0) : t = now := by
  unfold diff at h
  have h' : t - now = 0 := BitVec.eq_of_toInt_eq (by simpa using h)
  bv_omega

/-- An own event that comes next is reached with nothing before it. -/
theorem State.before_of_comes {s : State} {e : OwnEvent} {t : Instant} (h : s.comes e t) :
    s.before e = s.atInstant t := by
  obtain ⟨-, hi, hn, hd⟩ := h
  have ha : s.approach (s.byteInTime 0) e State.stretch = s.advanceTo t := by
    unfold State.stretch
    simp only [State.approach, hi, hn]
  have hw : s.advanceTo t = s.withClock { s.clock with cueTime := t } := by
    unfold State.advanceTo past
    split
    · rfl
    · rename_i hp
      have ht : t = s.now := eq_of_diff_eq_zero (by simp at hp; omega)
      subst ht
      rfl
  simp only [State.before, ha, hw, State.atInstant, State.withClock_now]

/-- The instants of the own events do not depend on now. -/
@[simp] theorem State.atInstant_instantOf (s : State) (t : Instant) (e : OwnEvent) :
    (s.atInstant t).instantOf e = s.instantOf e := by
  cases e <;> rfl

/-- An own event that comes next is taken at its instant. -/
theorem State.ownRow_of_comes {s : State} {e : OwnEvent} {t : Instant} (h : s.comes e t) :
    s.ownRow e = (s.atInstant t).takeOwn e := by
  have hi : (s.atInstant t).instantOf e = some t := by rw [State.atInstant_instantOf]; exact h.2.1
  have hd : (s.atInstant t).isDueNow e = true := by
    have hn : (s.atInstant t).now = t := rfl
    simp [State.isDueNow, hi, hn, reached, diff]
  simp [State.ownRow, h.1, State.before_of_comes h, hd]

/-- An own event that is not under way leaves its row without effect. -/
theorem State.ownRow_of_none {s : State} {e : OwnEvent} (hi : s.instantOf e = none) :
    s.ownRow e = s := by
  have hb : s.before e = s := by
    have ha : s.approach (s.byteInTime 0) e State.stretch = s := by
      unfold State.stretch
      simp only [State.approach, hi]
    simp [State.before, ha]
  unfold State.ownRow
  split
  · rfl
  · simp [hb, State.isDueNow, hi]

end Sys2Proof.Machine
end

