-- ==== Sys2Proof/Tests/Slice0.lean ====
section
/-! SUPPORT. Tests: ill-formed terms that `wellFormed` refuses, the manual's worked examples, one step each,
and for every statement with hypotheses a state and operands that meet them. -/

namespace Sys2Proof.Tests

open Sys2Proof.Machine

/-! ### Helpers -/

/-- The state after one command. -/
def after (c : Instr) (s : State) : State :=
  match exec c s with
  | .next t => t
  | _ => s

/-- The last reply's result code. -/
def lastResult (s : State) : Option Result := (s.link.replies.getLast?).map (·.result)

def noRamp : RampRequest := ⟨0, 0, 0⟩

/-- A hub in `st` with ramp fraction `f`, the clock LOCKED and every port RUNNING. -/
def running (st : HubState) (f : Nat) : State :=
  let run (b : BoardPort) : BoardPort := { b with st := .running }
  { State.reset with
    ctrl := ⟨st, .none, f, 100, 100⟩
    clock := { Reset.clock with st := .locked }
    ports := ⟨run Reset.ports.vision, run Reset.ports.sound, run Reset.ports.cab⟩ }

def live : State := running .live 256

def paused : State := running .paused 0

def halted : State := { running .halted 0 with ctrl := ⟨.halted, .command, 0, 100, 100⟩ }

def armed : State := running .armed 0

/-- The clock in `st`, `phase` microseconds into its frame. -/
def clocked (st : ClockState) (phase : Nat) (s : State) : State :=
  s.withClock { s.clock with st := st, cueTime := BitVec.ofNat 32 phase }

/-- Eight replies wait. -/
def fullLink (s : State) : State :=
  s.withLink { s.link with replies := List.replicate 8 ⟨0x81, 0, .ok, .bare⟩ }

/-! ### Ill-formed terms -/

theorem test_wf_dt_too_long : (Instr.fsync 2147483649).wellFormed = false := by decide

theorem test_wf_dt_longest : (Instr.fsync 2147483648).wellFormed = true := by decide

theorem test_wf_no_pairs : (Instr.samples 0 0 0 []).wellFormed = false := by decide

theorem test_wf_49_pairs : (Instr.samples 0 0 0 (List.replicate 49 (0, 0))).wellFormed = false := by decide

theorem test_wf_known_kind : (Instr.unknownKind 0 0x15 0 []).wellFormed = false := by decide

set_option maxRecDepth 4000 in
theorem test_wf_long_payload :
    (Instr.unknownKind 0 0x16 0 (List.replicate 251 0)).wellFormed = false := by decide

theorem test_wf_kind_word_of_a_report : (Instr.discardedKindWord 0 .cab 3).wellFormed = false := by decide

theorem test_wf_reply_too_long : (Instr.echoReply 4 .cab (2 ^ 30 + 1) 0 0 0).wellFormed = false := by decide

/-- Reports of two boards may overlap. -/
theorem test_wf_reply_over_a_command : (Instr.echoReply 4 .cab 5 0 0 0).wellFormed = true := by decide

theorem test_wf_presented_too_long : (Instr.presented 4 .cab (2 ^ 30 + 1) 0).wellFormed = false := by decide

theorem test_wf_input_on_sound : (Instr.input 5 .sound 2 0).wellFormed = false := by decide

theorem test_wf_bad_sum_that_is_right :
    (Instr.reportBadSum 5 .cab 2 [2, 7] 9).wellFormed = false := by decide

theorem test_wf_bad_sum_short : (Instr.reportBadSum 5 .cab 2 [1, 7] 9).wellFormed = false := by decide

theorem test_wf_bad_sum : (Instr.reportBadSum 5 .cab 2 [2, 7] 10).wellFormed = true := by decide

/-! ### Worked examples: clock and hub (chapters 1 and 2) -/

/-- 1.7, examples of folding and trimming: the rows whose frame goes on. -/
theorem test_fsync_folds :
    [0, 3, 40, 730, 999, 1000, 1930].map
        (fun phase =>
          let c := (after (.fsync 0) (clocked .locked phase live)).clock
          (c.lastE, c.trim, c.frameEnd)) =
      [(0, 0, 2000), (3, 3, 2003), (40, 20, 2020), (730, 20, 2020), (999, 20, 2020),
        (-1000, -20, 1980), (-70, -20, 1980)] := by decide

/-- The rows of the same table that end at the capture, and the good and bad ones in LOCKED. -/
theorem test_fsync_ends_frame :
    [1985, 1998, 40, 730].map
        (fun phase =>
          let c := (after (.fsync 0) (clocked .locked phase live)).clock
          (c.lastE, c.current, c.start, c.st)) =
      [(-15, 1, 1985, .locked), (-2, 1, 1998, .locked), (40, 0, 0, .locked),
        (730, 0, 0, .holdover)] := by decide

/-- A FRAME_MARK is ignored while FSYNC is the source (R7). -/
theorem test_frameMark_not_followed :
    (after (.frameMark 0) (clocked .locked 3 live)).clock.captured = false := by decide

/-- 2.6, ramp lengths and steps: the first step of a ramp in. -/
theorem test_frameStart_ramp_steps :
    [1, 2, 3, 10, 20, 50, 100, 200, 255].map
        (fun n =>
          (after .frameStart { running .rampIn 0 with ctrl := ⟨.rampIn, .none, 0, n, 100⟩ }).ctrl.f) =
      [256, 128, 86, 26, 13, 6, 3, 2, 2] := by decide

/-- The third frame without a capture moves LOCKED to HOLDOVER (R14, MISS_LIMIT 3). -/
theorem test_misses :
    (after .misses (live.withClock { live.clock with missCount := 2 })).clock.st = .holdover := by decide

/-- The 100th frame start in HOLDOVER halts a live hub (R15, R35, HOLDOVER_MAX 100). -/
theorem test_holdoverExpired :
    let t :=
      after .holdoverExpired (live.withClock { live.clock with st := .holdover, holdoverCount := 99 })
    t.ctrl = ⟨.halted, .clockLost, 0, 100, 100⟩ ∧ t.clock.st = .acquire := by decide

/-- A shorter FRAME_LEN is refused when the held PRESENT_PHASE is not below it (R5). -/
theorem test_setClock_checks_merged :
    let s := State.reset.withClock { Reset.clock with set := ⟨.fsync, 2000, 1500, 20, 50, 8, 3, 100⟩ }
    lastResult (after (.setClock 0 1 ⟨2, 0, 1500, 0, 0, 0, 0, 0, 0⟩) s) = some .badValue ∧
      lastResult (after (.setClock 0 1 ⟨2, 0, 1501, 0, 0, 0, 0, 0, 0⟩) s) = some .ok := by decide

theorem test_none_writes_ramps :
    (after (.cmdNone 0 1 ⟨2, 7, 9⟩) live).ctrl = ⟨.live, .none, 256, 100, 9⟩ := by decide

theorem test_arm_from_reset :
    let t := after (.arm 0 1 noRamp) State.reset
    t.ctrl.st = .armed ∧ t.clock.renumber = true ∧ (t.port .sound).st = .probing ∧
      lastResult t = some .ok := by decide

/-- No port enabled: the first item of R23. -/
theorem test_arm_needs_a_port :
    let off (b : BoardPort) : BoardPort := { b with cfg := { b.cfg with enable := false } }
    lastResult (after (.arm 0 1 noRamp)
      { State.reset with
        ports := ⟨off Reset.ports.vision, off Reset.ports.sound, off Reset.ports.cab⟩ }) =
      some .badConfig := by decide

theorem test_go_ramps_in : (after (.go 0 1 noRamp) armed).ctrl.st = .rampIn := by decide

/-- With ramp_in 0 the hub goes straight to LIVE (R25). -/
theorem test_go_straight_to_live :
    (after (.go 0 1 ⟨1, 0, 0⟩) armed).ctrl = ⟨.live, .none, 256, 0, 100⟩ := by decide

theorem test_pause_at_once :
    (after (.pause 0 1 ⟨2, 0, 0⟩) live).ctrl = ⟨.paused, .none, 0, 100, 0⟩ := by decide

theorem test_resume_keeps_f :
    (after (.resume 0 1 noRamp) (running .rampOut 117)).ctrl = ⟨.rampIn, .none, 117, 100, 100⟩ := by
  decide

theorem test_halt_keeps_reason :
    (after (.halt 0 1 noRamp) { halted with ctrl := ⟨.halted, .clockLost, 0, 100, 100⟩ }).ctrl.reason =
      .clockLost := by decide

theorem test_setup_from_halted :
    let t := after (.setup 0 1 noRamp) halted
    t.ctrl = ⟨.setup, .none, 0, 100, 100⟩ ∧ t.clock.st = .free ∧ (t.port .cab).st = .off := by decide

/-! ### Worked examples: channels, routes and generators (chapters 3 to 5) -/

/-- The hub of the sequence of chapter 3 in frame 120. -/
def frame120 : State :=
  let c := Reset.channel
  (live.withClock
      { live.clock with
        cueTime := 5240000, current := 120, ring := [⟨120, 5240000⟩], frameEnd := 5242000 }).withChannels
    (live.channels.set 7 { c with staleLimit := 3, stalePolicy := .fade, fadeFrames := 2 })

/-- Step 1: the pair for S60 is discarded. -/
theorem test_samples_step_1 :
    let t := after (.samples 0 120 400 [(7, 800), (60, 5)]) frame120
    t.channels[7].stream = .single ⟨800, 5240400⟩ ∧ t.discards = 1 := by decide

/-- Step 2: the next frame's sample. -/
theorem test_samples_step_2 :
    (after (.samples 0 121 450 [(7, 850)])
      (after (.samples 0 120 400 [(7, 800)]) frame120)).channels[7].stream =
      .tracking ⟨800, 5240400⟩ ⟨850, 5242450⟩ := by decide

/-- The state at the frame end of frame `n` of that sequence, S7 as it stands there. -/
def atEnd (n : Nat) (st : Stream) : State :=
  let start := 5240000 + (n - 120) * 2000
  (frame120.withClock
      { frame120.clock with
        cueTime := BitVec.ofNat 32 (start + 2000), current := BitVec.ofNat 16 n,
        ring := [⟨BitVec.ofNat 16 n, BitVec.ofNat 32 start⟩],
        frameEnd := BitVec.ofNat 32 (start + 2000) }).withChannels
    (frame120.channels.set 7 { frame120.channels[7] with stream := st })

/-- Steps 6 and 7: not yet stale at the frame start of 124, stale at that of 125. -/
theorem test_staleEntry :
    let st : Stream := .tracking ⟨800, 5240400⟩ ⟨855, 5242450⟩
    (after (.staleEntry 7) (atEnd 123 st)).channels[7].stream = st ∧
      (after (.staleEntry 7) (atEnd 124 st)).channels[7].stream = .stale ⟨855, 5242450⟩ 0 := by decide

/-- Step 8: the fading values. -/
theorem test_fade_values :
    [0, 1, 2].map (frame120.channels[7].fadeValue 855) = [855, 428, 0] := by decide

theorem test_setChannel_range :
    lastResult (after (.setChannel 0 1 ⟨47, 2, 0, 0, 0, 0⟩) live) = some .badValue ∧
      (after (.setChannel 0 1 ⟨47, 2, 0, 255, 0, 0⟩) live).channels[47].staleLimit = 255 := by decide

/-- 4, the arithmetic of one route: the route, and its channel S5. -/
def example5 : Route :=
  { Reset.route with
    source := .stream 5, port := some .cab, gain := 5000, offset := -100, lo := -3000, hi := 3000,
    slew := 200, lead := true, last := 2300 }

def channels5 : Vector Channel 48 :=
  State.reset.channels.set 5
    { Reset.channel with stream := .tracking ⟨1200, 1000⟩ ⟨1500, 2000⟩, leadMax := 4000 }

/-- In LIVE, and during a ramp with f 96. -/
theorem test_route_arithmetic :
    (example5.compute channels5 State.reset.gens 256 4500).toInt = 2500 ∧
      (example5.compute channels5 State.reset.gens 96 4500).toInt = 2100 := by decide

/-- 4, predictions at their limits. -/
theorem test_predictions :
    [Route.predict 4000 ⟨1200, 0⟩ ⟨1500, 1000⟩ 3500, Route.predict 5000 ⟨1000, 0⟩ ⟨1100, 2000⟩ 32000,
        Route.predict 20000 ⟨500, 0⟩ ⟨497, 2000⟩ 3000, Route.predict 20000 ⟨20000, 0⟩ ⟨30000, 500⟩ 9500,
        Route.predict 4000 ⟨1200, 0⟩ ⟨1500, 1000⟩ 600, Route.predict 0 ⟨1200, 0⟩ ⟨1500, 1000⟩ 3500] =
      [2250, 1350, 495, 32767, 1500, 1500] := by decide

/-- 4, scaling and rounding. -/
theorem test_scaling :
    [(2048, 0, 3), (2048, 0, -3), (1, 0, 100), (-4096, 250, 1000), (-8192, 10000, -12000),
        (32767, 0, 32767)].map
        (fun (x : Cue × Cue × Int) =>
          ((Route.scale { Reset.route with gain := x.1, offset := x.2.1 } x.2.2).toInt)) =
      [2, -2, 0, -750, 32767, 32767] := by decide

/-- 4, ramp stage values. -/
theorem test_ramp_stage :
    [((0 : Cue), 2647, 128), (0, 2647, 1), (-500, 1500, 64), (200, -1000, 128), (0, -1, 128)].map
        (fun x => Route.ramp { Reset.route with rest := x.1 } x.2.2 x.2.1) =
      [1324, 10, 0, -400, -1] := by decide

/-- A live change of source is refused, one of gain is taken (R57). -/
theorem test_setRoute_live :
    lastResult (after (.setRoute 0 1 ⟨3, 1, 4, 0, 0, 0, 0, 0, 0, 0, 0, 0, 0⟩) live) = some .wrongState ∧
      (after (.setRoute 0 1 ⟨3, 8, 0, 0, 0, 0, 77, 0, 0, 0, 0, 0, 0⟩) live).routes[3].gain = 77 := by
  decide

/-- Two routes cannot hold one slot (R59). -/
theorem test_setRoute_taken :
    let s :=
      State.reset.withRoutes (State.reset.routes.set 9 { Reset.route with port := some .cab, slot := 5 })
    lastResult (after (.setRoute 0 1 ⟨3, 6, 0, 0, 2, 5, 0, 0, 0, 0, 0, 0, 0⟩) s) = some .slotTaken := by
  decide

theorem test_clearRoute :
    (after (.clearRoute 0 1 5) (State.reset.withRoutes (State.reset.routes.set 5 example5))).routes[5] =
      Reset.route := by decide

theorem test_getRoute_range :
    lastResult (after (.getRoute 0 1 64) live) = some .badValue ∧
      lastResult (after (.getRoute 0 1 63) live) = some .ok := by decide

/-- 5.7, a rumble wave: the request in frame 500. -/
def rumble : State :=
  after (.setGenerator 0 1 ⟨1, 31, 1, 25000, 12500, 600, -600, 0⟩)
    (live.withClock
      { live.clock with
        cueTime := 7000900, current := 500, ring := [⟨500, 7000000⟩], frameEnd := 7002000 })

theorem test_setGenerator_rumble :
    [7006000, 7014000, 7024000, 7026000, 7040000].map (rumble.gens[1].level ·) =
        [600, -600, -600, 600, -600] ∧ rumble.gens[1].rate = 400 := by decide

/-- The frame start of 513 advances the anchor to 7,025,000. -/
theorem test_anchor_advance :
    (rumble.gens[1].frameStart false 7026000 7026000).anchor = .at 7025000 := by decide

/-- 5.7, a gear-change clunk: the hub before the report of step 1. -/
def clunk : State :=
  let cab := live.port .cab
  let s := live.withPort .cab { cab with echo := { Reset.echo with lineDelay := 40 } }
  let s := s.withCab { s.cab with triggers := s.cab.triggers.set 3 .rising }
  let s := s.withGens (s.gens.set 2 ⟨.oneShot, 10000, 30000, 2500, 0, 3, .idle, none, .absent⟩)
  s.withClock
    { s.clock with
      cueTime := 8100538, current := 700, ring := [⟨700, 8100000⟩], frameEnd := 8102000 }

theorem test_input_triggers :
    let t := after (.input 2 .cab 0 8) clunk
    t.gens[2].triggerAt = some 8100500 ∧ t.gens[2].runState = .pulse ∧
      t.cab.fifo = [⟨.cabLine 3, .rising, 700, 500, false⟩] := by decide

/-- Step 4: the frame start of 716 ends the pulse. -/
theorem test_pulseEnd :
    let g : Generator := ⟨.oneShot, 10000, 30000, 2500, 0, 3, .pulse, some 8100500, .absent⟩
    g.pulseEnds 8130000 = false ∧ g.pulseEnds 8132000 = true := by decide

theorem test_startGenerator :
    (after (.startGenerator 0 1 2) clunk).gens[2].triggerAt = some 8100538 ∧
      lastResult (after (.startGenerator 0 1 1) clunk) = some .wrongState := by decide

theorem test_stopGenerator :
    (after (.stopGenerator 0 1 2) (after (.startGenerator 0 1 2) clunk)).gens[2] = clunk.gens[2] := by
  decide

/-! ### Worked examples: ports and delivery (chapters 6 and 7) -/

/-- 6.3, slot order and trailer: the payload words sum to 33366. -/
theorem test_trailer :
    let k : Packet := ⟨.cue, 9, 3, 5, false, false, 0, [500, -32768, 100, -2, 0], none, none⟩
    k.beatCount 2 = 6 ∧ k.payloadBeats 2 = [[500, 32768], [100, 65534], [0, 0]] ∧
      k.trailer 2 = k.header1 + k.header2 + 33366 := by decide

/-- 6, an interrupted packet: the CUE packet of frame 300 has just started. -/
def cue300 : Packet :=
  ⟨.cue, 300, 6, 10, false, false, 0, [6, 7, 8, 9, 0, 1, 2, 3, 4, 5], some 6005000, none⟩

def interrupted : State :=
  let cab := live.port .cab
  (live.withClock
      { live.clock with
        cueTime := 6000000, current := 299, ring := [⟨299, 5999900⟩], frameEnd := 6001900 }).withPort .cab
    { cab with
      cfg := { cab.cfg with slots := 10, width := 2, leadSlot := 6 }
      inFlight := some ⟨cue300, 6000000, 0⟩ }

theorem test_abortAssert :
    ((after (.abortAssert 9 .cab) interrupted).port .cab).conts =
      [⟨.continuation, 300, 0, 6, false, false, 0, [0, 1, 2, 3, 4, 5], some 6005000, none⟩] := by decide

/-- ABORT is released at t + 30: the CONTINUE packet starts there and takes 12 microseconds. -/
theorem test_abortRelease :
    let s := after (.abortRelease 21 .cab) (after (.abortAssert 9 .cab) interrupted)
    (s.port .cab).inFlight.map (·.start) = some 6000030 ∧ s.instantOf (.complete .cab) = some 6000042 := by
  decide

theorem test_payloadBeatEnd :
    let t := after (.payloadBeatEnd .cab) interrupted
    t.now = 6000006 ∧ (t.port .cab).inFlight.map (·.delivered) = some 2 := by decide

theorem test_packetComplete :
    let t := after (.packetComplete .cab) interrupted
    t.now = 6000016 ∧ (t.port .cab).inFlight = none := by decide

/-- 7.2, the correction. -/
theorem test_correction :
    [[410, 395, 402, 388, 420, 399, 405, 401], [395, 402, 388, 420, 399, 405, 401, 377], [], [-7],
        [-7, 0]].map
        (fun (w : List Int) => ({ live.port .cab with window := w.map (⟨0, ·⟩) } : BoardPort).correction) =
      [403, 399, 0, -7, -3] := by decide

/-- 7, three boards on one frame: the latencies. -/
def board (p : Port) (width beat lineDelay declared : Nat) : BoardPort :=
  let b := live.port p
  ({ b with
      cfg := { b.cfg with width := width, beatPeriod := beat }
      echo := { Reset.echo with lineDelay := lineDelay, declared := declared } } : BoardPort).withLatencies

theorem test_latencies :
    let v := board .vision 1 4 35 38000
    let s := board .sound 2 2 22 9350
    let c := board .cab 4 2 40 900
    (v.latCue, s.latCue, c.latCue) = (38095, 9398, 962) ∧
      (v.latEvent, s.latEvent, c.latEvent) = (38063, 9382, 948) := by decide

/-- The cabinet of the same sequence, in frame `n` at `now`. -/
def cabinet (n : Nat) (now : Instant) : State :=
  let start := BitVec.ofNat 32 (20000000 + (n - 200) * 2000)
  { live with
    clock :=
      { live.clock with
        cueTime := now, current := BitVec.ofNat 16 n, ring := [⟨BitVec.ofNat 16 n, start⟩],
        frameEnd := start + 2000, set := { live.clock.set with presentPhase := 500 } }
    ports := ⟨board .vision 1 4 35 38000, board .sound 2 2 22 9350, board .cab 4 2 40 900⟩ }

/-- The VISION scheduler waits for frame 230. -/
def vision230 : State :=
  let s := cabinet 211 20022204
  s.withPort .vision { s.port .vision with sched := some ⟨230, 20022205, 20022405, false⟩ }

theorem test_release :
    let t := after (.release .vision) vision230
    t.now = 20022205 ∧ (t.port .vision).inFlight.map (·.packet.frame) = some 230 ∧
      (t.port .vision).sched = some ⟨231, 20024205, 20024405, false⟩ := by decide

/-- WAIT is held: frame 230 is skipped at its latest start, below skip_limit. -/
theorem test_skip :
    let s := vision230.withPort .vision { vision230.port .vision with wait := true }
    let t := after (.skip .vision) s
    t.now = 20022405 ∧ (t.port .vision).skipCount = 1 ∧ t.link.slots.late = none ∧
      (t.port .vision).sched.map (·.next) = some 231 := by decide

/-- 7, a latency change between builds: the reply skips frame 231. -/
theorem test_echoReply :
    let s := cabinet 211 20023900
    let s :=
      s.withPort .vision
        { s.port .vision with
          sched := some ⟨231, 20024205, 20024405, false⟩
          echo :=
            { (s.port .vision).echo with outstanding := some ⟨7, 0, some 20023820⟩ } }
    let t := after (.echoReply 0 .vision 0 7 38600 10) s
    (t.port .vision).latCue = 38695 ∧ (t.port .vision).skipCount = 1 ∧
      (t.port .vision).sched = some ⟨232, 20025605, 20025805, false⟩ := by decide

theorem test_presented :
    let s := cabinet 230 20060340
    ((after (.presented 0 .cab 0 230) s).port .cab).window = [⟨230, -200⟩] := by decide

theorem test_partialEnd :
    let s := interrupted.withPort .cab
      { interrupted.port .cab with inFlight := none, wait := true, conts := [{ cue300 with latest := some 6000900 }] }
    let t := after (.partialEnd .cab) s
    t.now = 6000900 ∧ (t.port .cab).conts = [] ∧ (t.port .cab).partialCount = 1 := by decide

theorem test_setPort_width :
    lastResult (after (.setPort 0 1 ⟨2, 8, 0, 0, 0, 3, 0, 0, 0, 0, 0, 0, 0⟩) State.reset) = some .badValue ∧
      ((after (.setPort 0 1 ⟨2, 8, 0, 0, 0, 4, 0, 0, 0, 0, 0, 0, 0⟩) State.reset).port .cab).latCue = 22 := by
  decide

theorem test_getPort_range : lastResult (after (.getPort 0 1 3) live) = some .badValue := by decide

theorem test_waitAssert : ((after (.waitAssert 0 .sound) live).port .sound).wait = true := by decide

theorem test_waitRelease_starts_echo :
    let s := live.withPort .cab { live.port .cab with wait := true, echoDue := some ⟨5, none⟩ }
    ((after (.waitRelease 0 .cab) s).port .cab).inFlight.map (·.packet.echoNumber) = some 5 := by decide

theorem test_echoInterval :
    let s := live.withPort .cab { live.port .cab with echo := { Reset.echo with intervalCount := 49 } }
    ((after (.echoInterval .cab) s).port .cab).echo.outstanding = some ⟨0, 0, none⟩ := by decide

/-- The third miss in a row loses an essential port and halts the hub (R113, R36). -/
theorem test_echoMissed :
    let e : EchoRecord := { Reset.echo with missCount := 2, outstanding := some ⟨9, 3, none⟩ }
    let t := after (.echoMissed .cab) (live.withPort .cab { live.port .cab with echo := e })
    (t.port .cab).st = .lost ∧ t.ctrl.reason = .portLost .cab := by decide

theorem test_discardedKindWord :
    ((after (.discardedKindWord 0 .sound 4) live).port .sound).rxErrors = 1 := by decide

theorem test_reportBadSum :
    ((after (.reportBadSum 0 .sound 0 [2, 7] 8) live).port .sound).rxErrors = 1 := by decide

/-! ### Worked examples: events, inputs and the link (chapters 8 to 10) -/

/-- 8, slip and a full delivery: the fifth-wheel jolt. -/
def jolt (frame : Frame) : PostRequest := ⟨17, 0, 0, 12000, 6, 7, 15, frame⟩

/-- Step 1: too late, with frame 226 and VISION. -/
theorem test_eventPost_too_late :
    (after (.eventPost 0 1 (jolt 0xFFFF)) (cabinet 210 20020900)).link.replies =
      [⟨0x90, 1, .tooLate, .post 17 none 0 0 (.unreachable 226 .vision)⟩] := by decide

/-- Step 2: frame 230 with slip 10, and the instants of the table. -/
theorem test_eventPost_slips :
    let t := after (.eventPost 0 1 (jolt 220)) (cabinet 210 20021400)
    t.queue.map (fun e => (e.frame, e.slipUsed, e.dests.map (·.state))) =
      [(230, 10,
        [.waiting 20022237 20022437, .waiting 20050918 20051118, .waiting 20059352 20059552])] := by decide

/-- Step 5: the CAB destination falls due on the busy line. -/
theorem test_destinationRelease :
    let e : Entry :=
      ⟨17, 0, 0, 12000, 6, 230, 15, 10, .active,
        [⟨.cab, .waiting 20059352 20059552, none, 0, none⟩]⟩
    let s := { cabinet 229 20059350 with queue := [e] }
    let s := s.withPort .cab { s.port .cab with inFlight := some ⟨{ cue300 with values := List.replicate 32 0 }, 20059338, 0⟩ }
    let t := after (.destinationRelease 17 .cab) s
    t.now = 20059352 ∧ t.queue.map (fun e => e.dests.map (·.state)) = [[.due 20059552]] := by decide

theorem test_missed :
    let e : Entry := ⟨17, 0, 0, 12000, 6, 230, 15, 10, .active, [⟨.cab, .due 20059552, none, 0, none⟩]⟩
    let s := { cabinet 229 20059350 with queue := [e] }
    let t := after (.missed 17 .cab) (s.withPort .cab { s.port .cab with abort := true })
    t.now = 20059552 ∧ t.queue.map (fun e => (e.st, e.dests.map (·.state))) = [(.done, [.missed])] := by
  decide

theorem test_eventCancel :
    let s := after (.eventPost 0 1 (jolt 220)) (cabinet 210 20021400)
    (after (.eventCancel 0 2 17) s).queue.map (·.st) = [.done] ∧
      lastResult (after (.eventCancel 0 2 18) s) = some .noEntry := by decide

theorem test_readOutcomes :
    let s := after (.eventCancel 0 2 17) (after (.eventPost 0 1 (jolt 220)) (cabinet 210 20021400))
    (after (.readOutcomes 0 3 1) s).queue = [] ∧
      lastResult (after (.readOutcomes 0 3 9) s) = some .badValue := by decide

/-- 9, a stamped pause: a report that is carried back over a frame start takes the earlier frame. -/
theorem test_input_earlier_frame :
    let s :=
      clunk.withClock
        { clunk.clock with
          cueTime := 9002020, current := 601, ring := [⟨601, 9002000⟩, ⟨600, 9000000⟩],
          frameEnd := 9004000 }
    let s := s.withCab { s.cab with previous := 0x21, triggers := s.cab.triggers.set 0 .either }
    (after (.input 0 .cab 0 0x20) s).cab.fifo = [⟨.cabLine 0, .falling, 600, 1980, false⟩] := by decide

theorem test_stampNow :
    let s :=
      clunk.withClock
        { clunk.clock with
          cueTime := 9003250, current := 601, ring := [⟨601, 9002000⟩], frameEnd := 9004000 }
    (after (.stampNow 0 1) s).cab.fifo = [⟨.linkRequest, .request, 601, 1250, false⟩] := by decide

/-- 9, a full FIFO: 24 records remain, with gap pending. -/
theorem test_readStamps :
    let x : Stamp := ⟨.cabLine 0, .rising, 1, 2, false⟩
    let t := after (.readStamps 0 1 8) (live.withCab { live.cab with fifo := List.replicate 32 x, gapPending := true })
    t.cab.fifo.length = 24 ∧ t.cab.gapPending = true := by decide

theorem test_setTriggers :
    let q (code : Byte) : TriggersRequest := ⟨2, (Vector.replicate 16 9).set 1 code⟩
    (after (.setTriggers 0 1 (q 4)) live).cab.triggers[1] = .high ∧
      lastResult (after (.setTriggers 0 1 (q 6)) live) = some .badValue := by decide

/-- A condition written in PAUSED on a line at its level is held back (R168, R169). -/
theorem test_setResume :
    let s := paused.withCab { paused.cab with previous := 0x20 }
    (after (.setResume 0 1 ⟨1, Vector.replicate 4 (5, 4)⟩) s).cab.conditions[0] = ⟨5, .high, true⟩ := by
  decide

theorem test_getStatus : lastResult (after (.getStatus 0 1) live) = some .ok := by decide

theorem test_unknownKind :
    (after (.unknownKind 0 0x30 9 [1]) live).link.replies = [⟨0xB0, 9, .unknownKind, .bare⟩] := by decide

theorem test_byteReceived :
    (after (.byteReceived 10 0xC3 false) live).link.framer.st = .len := by decide

/-- A LEN of 251 fails the candidate (R173). -/
theorem test_candidateFails :
    let t := after (.candidateFails 10 251 false) (after (.byteReceived 10 0xC3 false) live)
    t.link.framer.st = .hunt ∧ t.link.linkErrors = 1 := by decide

set_option maxRecDepth 4000 in
/-- 10.2, a stray sync byte: the gap's rescan finds the STAMP_NOW request. Its CRC, 0xCA19, was computed
outside the model from R174. -/
theorem test_gap_rescan :
    let bytes : List Byte := [0xC3, 0xC3, 0x00, 0x13, 0x05, 0xCA, 0x19]
    let s := live.withClock { live.clock with cueTime := 1100 }
    let s := s.withLink
      { s.link with framer := ⟨.payload, bytes.map (fun b => ⟨b, false⟩), 1060, false⟩ }
    let t := after .gap s
    t.now = 1161 ∧ t.link.linkErrors = 1 ∧ t.cab.fifo = [⟨.linkRequest, .request, 0, 1161, false⟩] := by
  decide

theorem test_recordSent :
    let s := live.withLink { live.link with tx := .reply, replies := [⟨0x81, 0, .ok, .bare⟩] }
    (after (.recordSent 5) s).link.tx = .idle ∧ (after (.recordSent 5) s).link.replies = [] := by decide

theorem test_powerOn_rate :
    (after (.powerOn true false) live).link.rate = .four ∧
      (after (.powerOn true true) live).link.rate = .one := by decide

theorem test_reset_cuts : ((after (.reset 0) interrupted).port .cab).inFlight = none := by decide

/-- An idle step lets one microsecond pass (log 4). -/
theorem test_idle_step :
    (match step live with | .next t => t.now | _ => 0) = 1 := by decide

/-! ### Payload layouts (11.2): the fields by their offsets -/

def ramp20 : List Byte := (List.range 20).map (BitVec.ofNat 8)

theorem test_layout_set_clock :
    clockRequestOf ramp20 = ⟨0, 1, 0x0203, 0x0405, 0x0607, 0x0809, 10, 11, 0x0C0D⟩ := by decide

theorem test_layout_set_port :
    portRequestOf ramp20 = ⟨0, 0x0102, 3, 4, 5, 6, 0x0708, 9, 10, 0x0B0C, 0x0D0E, 15, 16⟩ := by decide

theorem test_layout_set_route :
    routeRequestOf ramp20 =
      ⟨0, 0x0102, 3, 4, 5, 6, 0x0708, 0x090A, 0x0B0C, 0x0D0E, 0x0F10, 0x1112, 19⟩ := by decide

theorem test_layout_event_post :
    postRequestOf ramp20 = ⟨0, 1, 2, 0x0304, 5, 6, 7, 0x0809⟩ := by decide

theorem test_layout_samples :
    samplePairs [0, 120, 1, 144, 2, 7, 3, 32, 60, 0, 5] = [(7, 800), (60, 5)] := by decide

/-! ### Witnesses: states and operands that meet the hypotheses of the statements, each clause at its
bounds -/

theorem witness_RowsActAsTheirRecords :
    (∀ c ∈ [Instr.samples 0 9 9 [(0, 1)], .samples 0 9 9 (List.replicate 48 (47, 1)), .frameMark 0,
        .unknownKind 0 0x16 1 [], .getStatus 0 1],
      c.wellFormed = true ∧ (recordOf c).isSome = true ∧ c.dt? = some 0) := by decide

set_option maxRecDepth 4000 in
theorem witness_EnvelopeIsReceivedWhole :
    live.link.framer.st = .hunt ∧ ([] : List Byte).length ≤ 250 ∧
      (List.replicate 250 (3 : Byte)).length ≤ 250 := by decide

theorem witness_FullReplyQueueRefusesRequests :
    let s := fullLink live
    recordOf (.getStatus 0 1) = some (0x15, 1, []) ∧ (Instr.getStatus 0 1).dt? = some 0 ∧
      s.inReset = false ∧ 8 ≤ (s.elapse 0).link.replies.length := by decide

theorem witness_FrameStartBeginsTheNextFrame :
    State.reset.frameEndComes ∧ live.frameEndComes ∧ live.ctrl.st ≠ .setup ∧ live.link.tx ≠ .idle := by
  decide

theorem witness_FrameStartLeavesLockedOrHoldover :
    (let s := live.withClock { live.clock with missCount := 2 };
      s.frameEndComes ∧ s.clock.captured = false ∧ s.clock.set.missLimit ≤ s.clock.missCount + 1) ∧
    (let s := live.withClock { live.clock with missCount := 14, set := { live.clock.set with missLimit := 15 } };
      s.frameEndComes ∧ s.clock.set.missLimit ≤ s.clock.missCount + 1) ∧
    (let s := live.withClock { live.clock with st := .holdover, holdoverCount := 99 };
      (s.port .vision).goesLost = false ∧ (s.port .sound).goesLost = false ∧
        (s.port .cab).goesLost = false ∧ s.frameEndComes ∧ s.clock.set.holdoverMax ≤ s.clock.holdoverCount + 1) ∧
    (let s := armed.withClock { live.clock with st := .holdover, holdoverCount := 999, set := { live.clock.set with holdoverMax := 1000 } };
      s.frameEndComes ∧ s.clock.set.holdoverMax ≤ s.clock.holdoverCount + 1) := by decide

theorem witness_FrameStartStepsTheRamp :
    ∀ s ∈ [running .rampIn 253, running .rampIn 252, running .rampOut 3, running .rampOut 4, live],
      s.frameEndComes ∧ s.clock.st = .locked ∧ (s.port .vision).goesLost = false ∧
        (s.port .sound).goesLost = false ∧ (s.port .cab).goesLost = false := by decide

theorem witness_CaptureTrimsTheFrame :
    (∀ phase ∈ [0, 999, 1000, 1999],
      let u := clocked .locked phase live
      u.clock.phase < u.clock.set.frameLen ∧ u.inReset = false ∧ u.elapse 0 = u ∧
        u.clock.set.source = .fsync ∧ u.frameEnded = false ∧ u.clock.captured = false) ∧
    (∀ phase ∈ [50, 1950],
      let u := clocked .acquire phase armed
      u.clock.jumps = false ∧ u.frameEnded = false) ∧
    (let u := clocked .holdover 7 live;
      let v := u.withClock { u.clock with goodCount := 7, set := { u.clock.set with source := .frameMark } };
      v.clock.set.nLock ≤ min 31 (v.clock.goodCount + 1) ∧ (v.taken 0).clock.set.source = .frameMark ∧
        (v.taken 0).frameEnded = false) := by decide

theorem witness_BadCaptureInAcquireJumps :
    (∀ phase ∈ [51, 999, 1000, 1949],
      let u := clocked .acquire phase armed
      u.inReset = false ∧ u.elapse 0 = u ∧ u.frameEnded = false ∧ u.clock.captured = false ∧
        (u.clock.set.lockWindow : Int) < |u.clock.folded|) ∧
    (State.reset.elapse 0).clock.st = .free ∧ (State.reset.taken 0).clock.set.source ≠ .frameMark := by
  decide

theorem witness_SetClockUpdatesTheSettings :
    State.reset.canAnswer 0 ∧ live.canAnswer 0 ∧ (live.taken 0).ctrl.st ≠ .setup ∧
      (1 : Byte).getLsbD 0 = true ∧ (2 : Byte).getLsbD 1 = true ∧ (4 : Byte).getLsbD 2 = true ∧
      (Reset.clock.set.merge ⟨0xFF, 1, 1000, 999, 1, 1, 1, 1, 1⟩).isSome = true ∧
      (Reset.clock.set.merge ⟨0xFF, 0, 20000, 19999, 255, 1000, 31, 15, 1000⟩).isSome = true ∧
      (Reset.clock.set.merge ⟨2, 0, 999, 0, 0, 0, 0, 0, 0⟩) = none ∧
      (Reset.clock.set.merge ⟨0xF8, 0, 0, 0, 255, 1000, 31, 15, 1000⟩).map (·.frameLen) = some 2000 := by
  decide

/-- Every hub state answers; the states on both sides of each command's list of states are among these. -/
theorem witness_HubCommandsAreChecked :
    ∀ s ∈ [State.reset, armed, running .rampIn 5, live, running .rampOut 5, paused, halted],
      s.canAnswer 0 ∧ (s.taken 0).ctrl.st = s.ctrl.st := by decide

theorem witness_SetupEntryClearsDynamicState :
    (3 : Byte).toNat < 4 ∧ State.reset.canAnswer 0 ∧ (State.reset.taken 0).ctrl.st = .setup ∧
      armed.canAnswer 0 ∧ (armed.taken 0).ctrl.st = .armed ∧ paused.canAnswer 0 ∧
      (paused.taken 0).ctrl.st = .paused ∧ halted.canAnswer 0 ∧ (halted.taken 0).ctrl.st = .halted ∧
      (halted.taken 0).link.tx ≠ .idle := by decide

theorem witness_ArmChecksTheConfiguration :
    let s := State.reset.withRoutes (State.reset.routes.set 63 { Reset.route with port := some .vision, slot := 12 })
    s.canAnswer 0 ∧ (s.taken 0).ctrl.st = .setup ∧ (s.taken 0).configFault = some (.routeSlot 63) := by
  decide

theorem witness_ArmStartsTheApproach :
    State.reset.canAnswer 0 ∧
      (let u := State.reset.taken 0;
        u.ctrl.st = .setup ∧ u.configFault = none ∧ u.queue = [] ∧
          (∀ p ∈ [Port.vision, .sound, .cab],
            (u.port p).st = .off ∧ (u.port p).quietWhenOff ∧ (u.port p).cfg.enable = true ∧
              (u.port p).wait = false ∧ (u.port p).abort = false) ∧
          u.link.tx ≠ .idle ∧ u.clock.st = .free) := by decide

theorem witness_GoAndResumeBringMotion :
    let holdover (s : State) : State := s.withClock { s.clock with st := .holdover }
    (∀ s ∈ [armed, holdover armed, paused, holdover paused, running .rampOut 9, clocked .acquire 0 paused],
      s.canAnswer 0 ∧ (s.taken 0).ctrl = s.ctrl) ∧
    armed.clock.st = .locked ∧ armed.notRunning = [] ∧ (holdover armed).readyToGo = false ∧
      (holdover paused).readyToResume = true ∧ (clocked .acquire 0 paused).readyToResume = false := by
  decide

theorem witness_PauseRampsOutOrEntersPaused :
    (∀ s ∈ [live, running .rampIn 40], s.canAnswer 0 ∧
      ((s.taken 0).ctrl.st = .live ∨ (s.taken 0).ctrl.st = .rampIn) ∧ (s.taken 0).link.tx ≠ .idle) ∧
    (2 : Byte).getLsbD 1 = true ∧ (2 : Byte).toNat < 4 := by decide

theorem witness_HaltSendsRestValues :
    (∀ s ∈ [armed, running .rampIn 40, live, running .rampOut 40, paused],
      s.canAnswer 0 ∧ (s.taken 0).ctrl.st ≠ .halted ∧ (s.taken 0).ctrl.st ≠ .setup ∧
        ((s.taken 0).port .cab).st = .running ∧ ((s.taken 0).port .cab).wait = false) ∧
    halted.canAnswer 0 ∧ (halted.taken 0).ctrl.st = .halted := by decide

theorem witness_PairIsNewerEqualOrDiscarded :
    (47 : Byte).toNat < 48 ∧ 48 ≤ (48 : Byte).toNat ∧ 0 < diff (1001 : Instant) 1000 ∧
      ¬(0 < diff (999 : Instant) 1000) := by decide

/-- Frame 500 with the starts of frames 1, 30 and 31 before it in the ring. -/
def ringed : State :=
  live.withClock
    { live.clock with
      cueTime := 1000500, current := 500, frameEnd := 1002000
      ring := [⟨500, 1000000⟩, ⟨499, 998000⟩, ⟨470, 940000⟩, ⟨469, 938000⟩] }

theorem witness_SamplesAreTakenByTheirFrame_state :
    ringed.inReset = false ∧ (ringed.taken 0).ctrl.st ≠ .setup ∧ (ringed.taken 0).clock = ringed.clock :=
  ⟨rfl, by decide, rfl⟩

/-- Frames 2 ahead and 32 behind, 1 and 31 behind, one not in the ring, the current one and the next. -/
theorem witness_SamplesAreTakenByTheirFrame :
    let c : Frame := 500
    (2 ≤ (502 - c).toNat ∧ 32 ≤ (c - 502).toNat) ∧ (2 ≤ (468 - c).toNat ∧ 32 ≤ (c - 468).toNat) ∧
      (c - 499).toNat = 1 ∧ (c - 469).toNat = 31 ∧
      ringed.clock.ringStart 470 = some 940000 ∧ ringed.clock.ringStart 469 = some 938000 ∧
      (live.taken 0).clock.ringStart 0xFFFF = none ∧ ((0 : Frame) - 0xFFFF).toNat = 1 ∧
      ringed.clock.current = c ∧ 0 < diff ringed.clock.frameEnd ringed.clock.start ∧
      0 < ringed.clock.set.frameLen ∧ c + 1 = 501 := by decide

theorem witness_StaleEntryAgesTheChannels :
    let s := atEnd 124 (.tracking ⟨800, 5240400⟩ ⟨855, 5242450⟩)
    s.frameEndComes ∧
      ((3 * 2000 : Nat) : Int) < diff s.clock.frameEnd 5242450 ∧ s.channels[7].staleLimit = 3 := by decide

theorem witness_SetChannelUpdatesTheSettings :
    live.canAnswer 0 ∧ 48 ≤ (48 : Byte).toNat ∧ (47 : Byte).toNat < 48 ∧
      (Reset.channel.merge ⟨47, 15, 20000, 255, 2, 255⟩).isSome = true ∧
      (Reset.channel.merge ⟨47, 15, 0, 1, 0, 1⟩).isSome = true ∧
      Reset.channel.merge ⟨47, 4, 0, 0, 3, 0⟩ = none := by decide

/-- SET_ROUTE, a step each: index 63 and 64, mask 1023 and 1024, outside SETUP, the checks, the claims. -/
theorem witness_RoutesAreWrittenAndCleared :
    let q (port slot : Byte) : RouteRequest := ⟨63, 6, 0, 0, port, slot, 0, 0, 0, 0, 0, 0, 0⟩
    let taken := State.reset.routes.set 9 { Reset.route with port := some .cab, slot := 31 }
    State.reset.canAnswer 0 ∧ live.canAnswer 0 ∧ (64 : Byte).toNat = 64 ∧ (63 : Byte).toNat < 64 ∧
      (1023 : Word).toNat < 1024 ∧ (q 0 0).mask.getLsbD 1 = true ∧ (live.taken 0).ctrl.st ≠ .setup ∧
      (match Reset.route.merge (q 2 31) with | .ok m => claimHolder taken 63 m | _ => none) = some 9 ∧
      (match Reset.route.merge (q 2 30) with | .ok m => claimHolder taken 63 m | _ => some 0) = none ∧
      (match Reset.route.merge (q 0 12) with | .error e => some e | _ => none) = some .slot := by decide

theorem witness_ReadsChangeNothing :
    live.canAnswer 0 ∧ (63 : Byte).toNat < 64 ∧ 64 ≤ (64 : Byte).toNat ∧ portOf 2 = some .cab ∧
      3 ≤ (3 : Byte).toNat := by decide

theorem witness_SlotValueKeepsLimitsSlewAndRamp :
    let r := { example5 with slew := 32767, lo := 0x8000, hi := 0x7FFF, rest := 0x8000, last := 0x7FFF }
    r.lo.toInt ≤ r.rest.toInt ∧ r.rest.toInt ≤ r.hi.toInt ∧ r.slew ≠ 0 ∧ r.lo.toInt ≤ r.last.toInt ∧
      r.last.toInt ≤ r.hi.toInt ∧ Reset.route.slew = 0 ∧ Reset.route.lo.toInt ≤ Reset.route.rest.toInt := by
  decide

theorem witness_SetGeneratorUpdatesTheSettings :
    live.canAnswer 0 ∧ 4 ≤ (4 : Byte).toNat ∧ (3 : Byte).toNat < 4 ∧ (63 : Byte).toNat < 64 ∧
      generatorModeOf 2 = some .oneShot ∧ generatorModeOf 3 = none ∧ (live.taken 0).ctrl.st ≠ .setup ∧
      (15 : Byte).toNat ≤ 15 ∧ ¬((16 : Byte).toNat ≤ 15) := by decide

theorem witness_StartAndStopMoveTheOneShot :
    clunk.canAnswer 0 ∧ 4 ≤ (4 : Byte).toNat ∧ (3 : Byte).toNat < 4 ∧
      (clunk.taken 0).gens[2].mode = .oneShot ∧ (clunk.taken 0).gens[2].runState = .idle ∧
      (clunk.taken 0).gens[3].mode ≠ .oneShot := by decide

theorem witness_GeneratorsAtAFrameStart :
    (let g : Generator := ⟨.oneShot, 10000, 2000, 2500, 0, 3, .pulse, some 0, .absent⟩;
      let s := live.withGens (live.gens.set 2 g);
      s.frameEndComes ∧
        (g.highTime.toNat : Int) ≤
          diff (s.clock.frameEnd + BitVec.ofNat 32 s.clock.set.presentPhase) 0) ∧
    rumble.gens[1].mode = .periodic ∧ rumble.gens[1].anchor = .at 7000000 ∧
      0 ≤ diff (7000000 : Instant) 7000000 ∧
      diff (7050000 : Instant) 7000000 + diff (7064000 : Instant) 7050000 < 2 ^ 31 := by decide

theorem witness_SetPortUpdatesTheConfiguration :
    let m : PortRequest := ⟨2, 2047, 1, 1, 32, 4, 16, 31, 2, 60000, 2000, 255, 15⟩
    State.reset.canAnswer 0 ∧ live.canAnswer 0 ∧ portOf 3 = none ∧ portOf 2 = some .cab ∧
      m.mask.toNat < 2048 ∧ (live.taken 0).ctrl.st ≠ .setup ∧
      (Reset.ports.cab.cfg.merge m .cab).isSome = true ∧
      Reset.ports.cab.cfg.merge { m with leadSlot := 32 } .cab = none ∧
      Reset.ports.cab.cfg.merge { m with mask := 0 } .cab = some Reset.ports.cab.cfg := by decide

theorem witness_BeatsAndTrailersEnd :
    interrupted.comes (.beatEnd .cab) 6000006 ∧ (interrupted.port .cab).inFlight.isSome = true ∧
      (let echo := interrupted.withPort .cab
          { interrupted.port .cab with
            inFlight := some ⟨⟨.echo, 299, 0, 0, false, false, 5, [], none, none⟩, 6000000, 0⟩
            echo := { Reset.echo with outstanding := some ⟨5, 0, none⟩ } };
        echo.comes (.complete .cab) 6000006) ∧
      (let e : Entry := ⟨17, 0, 0, 12000, 6, 230, 0, 0, .active, [⟨.cab, .inFlight 6005000, some 1, 1, none⟩]⟩;
        let k : Packet := ⟨.event, 300, 0, 4, false, false, 0, [17, 0, 1, 6], some 6005000, some 17⟩;
        let s := { interrupted with queue := [e] };
        (s.withPort .cab { s.port .cab with inFlight := some ⟨k, 6000000, 0⟩ }).comes (.complete .cab)
          6000010) := by decide

theorem witness_WaitAndAbortActOnTheLine :
    live.inReset = false ∧
      (let b := { live.port .cab with wait := true, echoDue := some ⟨5, none⟩ };
        let u := (live.withPort .cab b).elapse 0
        u.queue = [] ∧ (u.port .cab).sched = none ∧ (u.port .cab).conts = [] ∧
          (u.port .cab).neutral = none ∧ (u.port .cab).inFlight = none ∧ (u.port .cab).abort = false ∧
          (u.port .cab).echoDue = some ⟨5, none⟩) ∧
      (let u := interrupted.elapse 9;
        ((u.port .cab).inFlight.map (·.delivered)) = some 4 ∧ past 6005000 u.now = false) ∧
      (let u := (after (.abortAssert 9 .cab) interrupted).elapse 21;
        u.queue = [] ∧ (u.port .cab).conts.length = 1 ∧ (u.port .cab).inFlight = none ∧
          (u.port .cab).sched = none ∧ (u.port .cab).wait = false) := by decide

theorem witness_EchoesAtFrameStarts :
    (let s := live.withPort .cab { live.port .cab with echo := { Reset.echo with intervalCount := 49 } };
      s.frameEndComes ∧ (s.port .cab).cfg.echoInterval ≤ (s.port .cab).echo.intervalCount + 1) ∧
    (∀ miss ∈ [1, 2, 254, 255],
      let e : EchoRecord := { Reset.echo with missCount := miss, outstanding := some ⟨9, 3, none⟩ }
      let s := live.withPort .cab { live.port .cab with echo := e }
      s.frameEndComes ∧ (s.port .cab).cfg.essential = true ∧ (s.port .vision).goesLost = false ∧
        (s.port .sound).goesLost = false) := by decide

theorem witness_EchoReplySetsTheDelays :
    let e : EchoRecord := { Reset.echo with outstanding := some ⟨255, 3, some 0⟩ }
    let s := live.withPort .cab { live.port .cab with st := .probing, echo := e }
    let u := s.elapse 100
    s.inReset = false ∧ (u.port .cab).st ≠ .off ∧ (u.port .cab).inbound = none ∧
      (u.port .cab).openFor 4000 u.now ∧
      (u.port .cab).echo.outstanding = some ⟨255, 3, some 0⟩ ∧ (255 : Word).toNat = (255 : Byte).toNat ∧
      (511 : Word).toNat ≠ (255 : Byte).toNat := by decide

theorem witness_PresentedReportsEnterTheWindow :
    let full := ringed.withPort .cab { ringed.port .cab with window := List.replicate 8 ⟨1, 2⟩ }
    full.inReset = false ∧ ((full.elapse 0).port .cab).inbound = none ∧
      ((full.elapse 0).port .cab).openFor 4000 (full.elapse 0).now ∧
      ((full.elapse 0).port .cab).st = .running ∧ (full.elapse 0).clock.ringStart 469 = some 938000 ∧
      (full.elapse 0).clock.ringStart 468 = none ∧ 8 ≤ ((full.elapse 0).port .cab).window.length := by
  decide

theorem witness_BadWordsAreCounted :
    live.inReset = false ∧ ((live.elapse 0).port .cab).inbound = none ∧
      ((live.elapse 0).port .cab).st ≠ .off ∧ ((State.reset.elapse 0).port .cab).st = .off ∧
      3 < (4 : Word).toNat ∧ (1 : Word).toNat ≤ 3 ∧ (3 : Word).toNat ≤ 3 ∧
      (7 : Word) ≠ [(5 : Word)].foldl (· + ·) 3 ∧ ((live.elapse 0).port .cab).openFor 4000 (live.elapse 0).now := by
  decide

/-- A port that entered PROBING `age` microseconds ago: with an age of the whole span every word is heard, and
with one just below half of it the last word alone. -/
theorem witness_BadWordsAreCounted_afresh (age : Nat) (h : age = 2000 ∨ age = 999) :
    let u := (after (.arm 0 1 noRamp) State.reset).elapse age
    let b := u.port .cab
    b.st ≠ .off ∧ b.inbound = none ∧ b.openedAt = some 0 ∧
      (age = 2000 → b.openFor 2000 u.now) ∧ (age = 999 → (u.now - 0).toNat < 2000 - 2000 / 2) := by
  rcases h with rfl | rfl <;> decide

theorem witness_ReleaseStartsTheCuePacket :
    vision230.comes (.release .vision) 20022205 ∧
      (vision230.port .vision).sched = some ⟨230, 20022205, 20022405, false⟩ ∧
      past 20022405 20022205 = false ∧ (vision230.port .vision).inFlight = none ∧
      (vision230.port .vision).conts = [] ∧ vision230.queue = [] ∧
      (vision230.withPort .vision { vision230.port .vision with abort := true }).comes (.release .vision)
        20022205 := by decide

theorem witness_LateFramesAreSkipped :
    (let s := vision230.withPort .vision
        { vision230.port .vision with
          wait := true, skipCount := 3, sched := some ⟨230, 20022205, 20022405, true⟩ };
      s.comes (.skip .vision) 20022405 ∧ (s.port .vision).wait = true ∧
        (s.port .vision).cfg.skipLimit ≤ min 255 ((s.port .vision).skipCount + 1) ∧
        (s.port .sound).sched = none ∧ (s.port .cab).sched = none ∧
        past ((s.atInstant 20022405).clock.presentationOr 231 20022405 - 38095) 20022405 = false) ∧
    (let s := interrupted.withPort .cab
        { interrupted.port .cab with
          inFlight := none, wait := true, conts := [{ cue300 with latest := some 6000900 }] };
      s.comes (.partialEnd .cab) 6000900) := by decide

theorem witness_EventPostAdmitsTheFirstFrameInTime :
    (∀ s ∈ [cabinet 210 20020900, cabinet 210 20021400],
      s.canAnswer 0 ∧ (s.taken 0).ctrl.st = .live ∧ (s.taken 0).queue = [] ∧
        (State.destinationsOf 7).all (fun p => ((s.taken 0).port p).cfg.enable) = true) ∧
    (let u := (cabinet 210 20021400).taken 0;
      (u.lateDestinations (State.destinationsOf 7) 229) = [.vision] ∧
        (u.lateDestinations (State.destinationsOf 7) 230) = []) ∧
    (let u := (cabinet 210 20020900).taken 0;
      ∀ k ∈ List.range 16, u.lateDestinations (State.destinationsOf 7) (211 + BitVec.ofNat 16 k) ≠ []) ∧
    State.postInRange (jolt 220) = true ∧ State.postInRange { jolt 465 with kind := 15, shape := 15, duration := 1 } = true := by
  decide

theorem witness_EventPostRefusals :
    let u := (cabinet 210 20020900).taken 0
    (cabinet 210 20020900).canAnswer 0 ∧ paused.canAnswer 0 ∧ (paused.taken 0).admitsEvents = false ∧
      State.postInRange (jolt 220) = true ∧ State.postInRange { jolt 220 with destinations := 8 } = false ∧
      ((210 : Frame) - u.clock.current).toNat = 0 ∧ ((466 : Frame) - u.clock.current).toNat = 256 ∧
      ((32977 : Frame) - u.clock.current).toNat = 32767 ∧ ((32979 : Frame) - u.clock.current).toNat = 32769 ∧
      ((after (.eventPost 0 1 (jolt 220)) (cabinet 210 20021400)).queue.map (·.tag)) = [17] := by decide

theorem witness_DestinationsAreReleasedOrMissed :
    let e (st : DestState) : Entry := ⟨17, 0, 0, 12000, 6, 230, 15, 10, .active, [⟨.cab, st, none, 0, none⟩]⟩
    let s (st : DestState) (port : PortState) : State :=
      let s := cabinet 229 20059350
      { s.withPort .cab { s.port .cab with st := port } with queue := [e st] }
    (s (.waiting 20059352 20059552) .running).comes (.destinationRelease 17 .cab) 20059352 ∧
      (s (.waiting 20059352 20059552) .lost).comes (.destinationRelease 17 .cab) 20059352 ∧
      (s (.waiting 20059352 20059351) .running).comes (.destinationRelease 17 .cab) 20059352 ∧
      past 20059351 20059352 = true ∧ past 20059552 20059352 = false ∧
      (s (.due 20059552) .running).comes (.missed 17 .cab) 20059552 ∧
      (s (.due 20059552) .running).entry 17 = some (e (.due 20059552)) := by decide

theorem witness_EventCancelDropsAWaitingEntry :
    let s := after (.eventPost 0 1 (jolt 220)) (cabinet 210 20021400)
    let d := after (.eventCancel 0 2 17) s
    s.canAnswer 0 ∧ (s.taken 0).tagsFit ∧
      (∀ e ∈ (s.taken 0).queue,
        e.tag = 17 ∧ e.st = .active ∧ e.dests.all Destination.isWaiting = true) ∧
      d.canAnswer 0 ∧ (∀ e ∈ (d.taken 0).queue, e.tag = 17 ∧ e.st = .done) := by decide

theorem witness_InputStampsEdgesAndTriggers :
    let u := clunk.elapse 2
    clunk.inReset = false ∧ (u.port .cab).st ≠ .off ∧ (u.port .cab).inbound = none ∧
      (u.port .cab).openFor 4000 u.now ∧ u.ctrl.st ≠ .paused ∧
      u.cab.fifo.length + 16 ≤ 32 ∧
      (live.withCab { live.cab with fifo := List.replicate 32 ⟨.linkRequest, .request, 0, 0, false⟩ }).cab.fifo.length
        + 0 ≤ 32 := by decide

/-- PAUSED, all four conditions on line 5 HIGH; the CAB port in `st`. -/
def seated (st : PortState) : State :=
  (paused.withCab { paused.cab with conditions := Vector.replicate 4 ⟨5, .high, false⟩ }).withPort .cab
    { paused.port .cab with st := st }

theorem witness_ResumeConditionsResume :
    (∀ st ∈ [PortState.running, .lost],
      (seated st).inReset = false ∧ (((seated st).elapse 0).port .cab).st ≠ .off ∧
        (((seated st).elapse 0).port .cab).inbound = none ∧ ((seated st).elapse 0).ctrl.st = .paused ∧
        (((seated st).elapse 0).port .cab).openFor 4000 ((seated st).elapse 0).now) ∧
    (0x20 : Word).getLsbD 5 = true ∧ ((seated .running).elapse 0).readyToResume = true ∧
      ((seated .lost).elapse 0).readyToResume = false := by decide

theorem witness_TriggersAndConditionsAreWritten :
    live.canAnswer 0 ∧ paused.canAnswer 0 ∧ triggerTypeOf 5 = some .low ∧ 5 < (6 : Byte).toNat ∧
      (15 : Byte).toNat < 16 ∧ 16 ≤ (16 : Byte).toNat ∧ conditionOf (15, 5) = some ⟨15, .low, false⟩ ∧
      conditionOf (16, 5) = none ∧ conditionOf (15, 6) = none := by decide

theorem witness_StampNowMarksTheInstant :
    let fifo (n : Nat) : State :=
      live.withCab { live.cab with fifo := List.replicate n ⟨.linkRequest, .request, 0, 0, false⟩ }
    State.reset.canAnswer 0 ∧ (State.reset.taken 0).ctrl.st = .setup ∧
      (∀ n ∈ [0, 1, 31], (fifo n).canAnswer 0 ∧ ((fifo n).taken 0).ctrl.st ≠ .setup ∧
        ((fifo n).taken 0).cab.fifo.length < 32) ∧
      (fifo 32).canAnswer 0 ∧ 32 ≤ ((fifo 32).taken 0).cab.fifo.length ∧
      ringed.clock.ring = ringed.clock.ring.take 3 ++ ⟨469, 938000⟩ :: [] ∧
      (∀ x ∈ ringed.clock.ring.take 3, diff 938000 x.start < 0) ∧ 0 ≤ diff (938000 : Instant) 938000 ∧
      (∀ x ∈ ringed.clock.ring, diff 937999 x.start < 0) := by decide

theorem witness_ReadsCollectTheOldest :
    live.canAnswer 0 ∧ (1 ≤ (8 : Byte).toNat ∧ (8 : Byte).toNat ≤ 8) ∧ 8 < (9 : Byte).toNat := by decide

theorem witness_UnknownKindIsAnswered :
    live.canAnswer 0 ∧ (0 : Byte).toNat = 0 ∧ 0x15 < (0x16 : Byte).toNat ∧
      requestLength 0x15 = some 0 ∧ ([1] : List Byte).length ≠ 0 := by decide

theorem witness_BytesAndGapsMoveTheFramer :
    let framer (st : FramerState) (buffer : List RxByte) : State :=
      live.withLink { live.link with framer := ⟨st, buffer, 0, false⟩ }
    (live.elapseByte 10).link.framer.st = .hunt ∧
      ((framer .kind [⟨0xC3, false⟩, ⟨0, false⟩]).elapseByte 10).link.framer.st = .kind ∧
      ((framer .len [⟨0xC3, false⟩]).elapseByte 10).link.framer.buffer = [⟨0xC3, false⟩] ∧
      251 ≤ (251 : Byte).toNat ∧ (framer .len [⟨0xC3, false⟩]).comes .gap 101 := by decide

/-- One state for each record the transmitter may choose, a record without given layout on the line. -/
theorem witness_TransmitterChoosesByPrecedence :
    let note : NoticeSlots := Reset.slots
    let r : Reply := ⟨0x83, 0, .badValue, .channel 48 none⟩
    let base (tx : Transmitter) (replies : List Reply) (slots : NoticeSlots) : State :=
      live.withLink { live.link with tx := tx, replies := replies, slots := slots }
    ∀ s ∈ [base .reply [r] note, base .reply [r, r] note, base live.link.tx [] note,
        base live.link.tx [] { note with state := some ⟨Reset.notice, 255⟩ },
        base live.link.tx [] { note with clock := some ⟨⟨.free, .free, 0, 0, .arm⟩, 0⟩ },
        base live.link.tx [] { note with port := some ⟨portChange live .cab .off .running .setupEntry 0 0, 255⟩ },
        base live.link.tx [] { note with late := some ⟨⟨.cab, 0, 0, 0, 0, 0⟩, 0⟩ },
        base live.link.tx [] { note with outcomes := some ⟨⟨0, 0, [], 0, 0⟩, 0⟩ },
        base live.link.tx [] { note with stamps := some ⟨⟨⟨.linkRequest, .request, 0, 0, false⟩, 1, 0⟩, 0⟩ },
        live.withLink { live.link with frameStart := some ⟨0, .free, 0, .live⟩ }],
      s.inReset = false ∧ s.link.lengthOnLine = none ∧ (s.elapse 0).link.tx ≠ .idle ∧ (s.elapse 0).link = s.link := by decide

theorem witness_ResetCutsAndHolds :
    live.inReset = false ∧ (after (.reset 0) live).inReset = true := by decide

/-- The hypotheses of the statements about every step: the invariants hold after reset, and a step from
there answers a next state. -/
theorem witness_StepKeeps :
    State.reset.ctrl.reasonFits ∧ State.reset.clock.ringFits ∧ State.reset.clock.settingsFit ∧
      State.reset.storesFit ∧ State.reset.tagsFit ∧ (∀ e ∈ State.reset.queue, e.stateFits) := by decide

theorem witness_StepKeeps_states :
    live.ctrl.rampFits ∧ live.clockFits ∧ State.reset.ctrl.rampFits ∧ State.reset.clockFits :=
  ⟨rfl, Or.inl rfl, rfl, rfl⟩

theorem witness_StepKeepsClaimsApart : State.reset.claimsFit := by
  intro i j _
  simp [State.reset, Route.sameClaim, Reset.route]

theorem witness_StepKeepsPortsInTheirStates : State.reset.portsFit where
  setup := fun _ p => by cases p <;> rfl
  quiet := fun p => by cases p <;> decide
  schedulers := fun p => by cases p <;> decide
  destinations := ⟨fun _ => rfl, by simp [State.reset]⟩

/-! ### Witnesses of frame starts, recomputations, losses and the line -/

/-- An ACTIVE entry of tag 17 for frame `f` with one destination, on the CAB port in `st`. -/
def joltEntry (f : Frame) (st : DestState) (packet : Option Packet) : Entry :=
  ⟨17, 0, 0, 12000, 6, f, 15, 0, .active, [⟨.cab, st, none, 0, packet⟩]⟩

/-- The EVENT packet of such an entry. -/
def joltPacket (f : Frame) (latest : Instant) : Packet :=
  ⟨.event, f, 0, 4, false, false, 0, [17, 0, 12000, 6], some latest, some 17⟩

/-- A live hub one microsecond before its frame end. The CAB line is taken by `k` or held off, its scheduler
has frame `f`, and the entry for that frame has its CAB destination in `st`. -/
def beforeEnd (renumber : Bool) (f : Frame) (k : Option Packet) (st : DestState) : State :=
  let s := clocked .locked 1999 live
  let s := s.withClock { s.clock with renumber := renumber }
  { s.withPort .cab
      { s.port .cab with
        wait := k.isNone
        inFlight := k.map (⟨·, 1998, 0⟩)
        sched := some ⟨f, 5000, 5200, false⟩ } with
    queue := [joltEntry f st none] }

/-- The states of a destination, each with the line as it goes with it. -/
def destinations : List (Option Packet × DestState) :=
  [(none, .waiting 5000 5200), (none, .due 5200), (some (joltPacket 1 5200), .inFlight 5200)]

theorem witness_FrameStartBeginsTheNextFrame_renumbering :
    live.clock.settingsFit ∧ (live.port .cab).latCue ≤ 60000 ∧ (live.port .cab).cfg.guard ≤ 2000 ∧
      ∀ x ∈ destinations,
        let s := beforeEnd true 1 x.1 x.2
        s.frameEndComes ∧ s.clock.renumber = true ∧ s.ctrl.st ≠ .rampOut ∧
          (s.port .cab).sched = some ⟨1, 5000, 5200, false⟩ := by decide

theorem plainFrame_of_ports (s : State) (v : (s.port .vision).goesLost = false)
    (w : (s.port .sound).goesLost = false) (c : (s.port .cab).goesLost = false)
    (h : s.clock.st ≠ .holdover) : s.plainFrame :=
  ⟨fun p => by cases p <;> assumption, h⟩

theorem witness_FrameStartBeginsTheNextFrame_plain (r : Bool) (f : Frame) (k : Option Packet)
    (st : DestState) : (beforeEnd r f k st).plainFrame :=
  plainFrame_of_ports _ rfl rfl rfl (by simp [beforeEnd, clocked, live, running, State.withClock, State.withPort])

theorem witness_FrameStartBeginsTheNextFrame_recomputation :
    ∀ x ∈ destinations,
      let s := beforeEnd false 2 x.1 x.2
      s.frameEndComes ∧ s.clock.renumber = false ∧ s.ctrl.st ≠ .rampOut ∧ (s.port .cab).heldOff := by
  decide

/-- Frames 2 and 32768 are 1 and 32767 ahead of frame 1, which begins at 2000, and in time there. -/
theorem witness_FrameStartBeginsTheNextFrame_ahead :
    (((2 : Frame) - (0 + 1)).toNat = 1 ∧ ((32768 : Frame) - (0 + 1)).toNat = 32767) ∧
      past (2000 + 1 * 2000 - 70) 2000 = false ∧ reached (2000 + 1 * 2000 - 14 - 200) 2000 = false ∧
      past (2000 + 32767 * 2000 - 70) 2000 = false ∧
      reached (2000 + 32767 * 2000 - 14 - 200) 2000 = false := by decide

/-- A frame that ends at its capture: in LOCKED, to LOCK, and in HOLDOVER with both ends of its count. -/
theorem witness_CaptureTrimsTheFrame_ended :
    let at_ (st : ClockState) (good count : Nat) : State :=
      let s := clocked st 1985 live
      s.withClock { s.clock with goodCount := good, holdoverCount := count }
    ∀ u ∈ [at_ .locked 0 0, at_ .acquire 7 0, at_ .holdover 7 0, at_ .holdover 0 98, at_ .holdover 0 99],
      u.inReset = false ∧ u.elapse 0 = u ∧ u.clock.set.source = .fsync ∧ u.frameEnded = false ∧
        u.clock.captured = false ∧ u.clock.folded = -15 ∧
        reached (u.clock.start + BitVec.ofInt 32 (2000 - 15)) u.now = true := by decide

/-- The last port to leave its state is CAB, or SOUND. -/
theorem witness_PortNoticesOfSetupAndArm :
    (let s := halted.withPort .cab { halted.port .cab with st := .off };
      s.canAnswer 0 ∧ (s.taken 0).link.tx ≠ .idle ∧ ((s.taken 0).port .cab).st = .off ∧
        ((s.taken 0).port .sound).st ≠ .off) ∧
    (let b := State.reset.port .cab;
      let s := State.reset.withPort .cab { b with cfg := { b.cfg with enable := false, essential := false } };
      s.canAnswer 0 ∧ (s.taken 0).configFault = none ∧ (s.taken 0).link.tx ≠ .idle ∧
        ((s.taken 0).port .cab).cfg.enable = false ∧ ((s.taken 0).port .sound).cfg.enable = true) := by
  decide

/-- A guard of 2000 and a latency of 25 and 17 (fixed, without line delay) on the taken CAB line: frame 2 is
in time. -/
theorem witness_RecomputationByAConfiguration :
    ∀ x ∈ destinations,
      let s := beforeEnd false 2 x.1 x.2
      let u := s.taken 0
      s.canAnswer 0 ∧ u.ctrl.st ≠ .setup ∧ (u.port .cab).heldOff ∧
        (u.port .cab).cfg.merge ⟨2, 256, 0, 0, 0, 0, 0, 0, 0, 0, 1900, 0, 0⟩ .cab =
          some { (u.port .cab).cfg with guard := 1900 } ∧
        u.clock.presentation 2 = some 4000 ∧ past (4000 - 70) u.now = false ∧
        reached (4000 - 14 - 1900 : Instant) u.now = false := by decide

theorem witness_WaitAndAbortActOnTheLine_due :
    (∀ s ∈ [live.withPort .cab { live.port .cab with wait := true },
        live.withPort .cab { live.port .cab with abort := true }],
      (let u := { s with queue := [joltEntry 1 (.waiting 1500 1700) none] };
        u.comes (.destinationRelease 17 .cab) 1500 ∧
          u.entry 17 = some (joltEntry 1 (.waiting 1500 1700) none)) ∧
      past 1700 1500 = false ∧ (s.port .cab).st = .running ∧ (s.port .cab).inFlight = none ∧
      (let b := s.port .cab;
        let u := s.withPort .cab { b with echo := { b.echo with intervalCount := 49 } };
        u.frameEndComes ∧ (u.port .cab).echo.outstanding = none ∧
          (u.port .cab).cfg.echoInterval ≤ (u.port .cab).echo.intervalCount + 1)) := by decide

/-- An EVENT, a NEUTRAL and an ECHO packet on the line at ABORT, and a NEUTRAL packet waiting at its release. -/
theorem witness_WaitAndAbortActOnTheLine_whole :
    let cab := live.port .cab
    (let s := live.withPort .cab { cab with inFlight := some ⟨joltPacket 1 1700, 0, 0⟩ };
      let u := { s with queue := [joltEntry 1 (.inFlight 1700) (some (joltPacket 1 1700))] };
      (u.elapse 9).queue = u.queue ∧ ((u.elapse 9).port .cab).inFlight = (u.port .cab).inFlight ∧
        past 1700 (u.elapse 9).now = false) ∧
    (let k : Packet := { cue300 with kind := .neutral, latest := none };
      let u := live.withPort .cab { cab with inFlight := some ⟨k, 0, 0⟩ };
      let v := live.withPort .cab { cab with abort := true, neutral := some k };
      ((u.elapse 9).port .cab).inFlight = (u.port .cab).inFlight ∧
        ((v.elapse 9).port .cab).neutral = some k ∧ ((v.elapse 9).port .cab).conts = [] ∧
        ((v.elapse 9).port .cab).inFlight = none ∧ (v.elapse 9).queue = [] ∧
        ((v.elapse 9).port .cab).sched = none ∧ ((v.elapse 9).port .cab).wait = false) ∧
    (let k : Packet := ⟨.echo, 0, 0, 0, false, false, 5, [], none, none⟩;
      let u := live.withPort .cab
        { cab with
          inFlight := some ⟨k, 0, 0⟩, echo := { cab.echo with outstanding := some ⟨5, 0, none⟩ } };
      ((u.elapse 5).port .cab).inFlight = (u.port .cab).inFlight ∧
        ((u.elapse 5).port .cab).echo.outstanding = some ⟨5, 0, none⟩) := by decide

/-- The third miss in a row of the CAB port alone, its line free, held off or taken, in both orders of the
echoes and the schedulers. -/
theorem witness_EchoesAtFrameStarts_lost :
    ∀ x ∈ destinations, ∀ builds ∈ [false, true],
      let s := beforeEnd false 2 x.1 x.2
      let e : EchoRecord := { Reset.echo with missCount := 2, outstanding := some ⟨9, 3, none⟩ }
      let s := s.withPort .cab { s.port .cab with echo := e }
      let s := { s with choices := [{ s.choice with buildsFirst := builds }] }
      s.frameEndComes ∧ (s.port .cab).st = .running ∧ s.choice.buildsFirst = builds ∧
        s.link.tx ≠ .idle ∧ (s.port .vision).goesLost = false ∧ (s.port .sound).goesLost = false := by
  decide

/-- A PROBING port answered, and a RUNNING one whose latency changes. -/
theorem witness_EchoReplySetsTheDelays_recomputation :
    (let e : EchoRecord := { Reset.echo with outstanding := some ⟨255, 3, some 0⟩ };
      let s := live.withPort .cab { live.port .cab with st := .probing, echo := e };
      ((s.elapse 100).port .cab).st ≠ .running ∧ (s.elapse 100).link.tx ≠ .idle) ∧
    ∀ x ∈ destinations,
      let s := beforeEnd false 2 x.1 x.2
      let e : EchoRecord := { Reset.echo with outstanding := some ⟨5, 0, some 1900⟩ }
      let u := (s.withPort .cab { s.port .cab with echo := e }).elapse 0
      (u.port .cab).st = .running ∧ (u.port .cab).heldOff ∧ (u.port .cab).latCue = 70 ∧
        (u.port .cab).sched = some ⟨2, 5000, 5200, false⟩ ∧ u.clock.presentation 2 = some 4000 ∧
        past (4000 - 1000 - 70 : Instant) u.now = false ∧
        reached (4000 - 200 - 1000 - 14 : Instant) u.now = false := by decide

/-- A first start, on a line without a scheduler and on one whose packet is not due; a resend at the release
of ABORT, with starts 1 and 255. -/
theorem witness_DestinationsAreReleasedOrMissed_start :
    (∀ sched ∈ [none, some ⟨2, 5000, 5200, false⟩],
      let s := live.withPort .cab { live.port .cab with sched := sched }
      let u := { s with queue := [joltEntry 1 (.waiting 1500 1700) none] }
      u.comes (.destinationRelease 17 .cab) 1500 ∧ past 1700 1500 = false ∧
        (u.port .cab).st = .running ∧ ¬(u.port .cab).heldOff ∧ (u.port .cab).conts = []) ∧
    ∀ starts ∈ [1, 255],
      let s := live.withPort .cab { live.port .cab with abort := true }
      let d : Destination := ⟨.cab, .due 1700, some 12000, starts, some (joltPacket 1 1700)⟩
      let u := { s with queue := [{ joltEntry 1 (.due 1700) none with dests := [d] }] }
      (u.elapse 9).queue = u.queue ∧ (u.elapse 9).ports = u.ports ∧ (u.elapse 9).now = 9 ∧
        past 1700 9 = false := by decide

/-- A report into an empty FIFO and into one that holds a stamp. -/
theorem witness_InputStampsEdgesAndTriggers_notice :
    ∀ fifo ∈ [[], [(⟨.linkRequest, .request, 0, 0, false⟩ : Stamp)]],
      let u := (clunk.withCab { clunk.cab with fifo := fifo }).elapse 2
      u.cab.fifo = fifo ∧ u.link.tx ≠ .idle ∧ u.cab.triggers[3] = .rising ∧
        u.cab.previous.getLsbD 3 = false ∧ (8 : Word).getLsbD 3 = true := by decide

/-- Condition 3 alone fires, with the port RUNNING and LOST; with its flag held none does. -/
theorem witness_ResumeConditionsResume_notice :
    ∀ st ∈ [PortState.running, .lost], ∀ held ∈ [false, true],
      let s := (seated st).withCab
        { (seated st).cab with
          conditions := (Vector.replicate 4 ⟨0, .none, false⟩).set 3 ⟨5, .high, held⟩ }
      (s.elapse 0).ctrl.st = .paused ∧ (s.elapse 0).link.tx ≠ .idle ∧
        (s.elapse 0).cab.conditions[3] = ⟨5, .high, held⟩ ∧
        (∀ j ∈ [(0 : Fin 4), 1, 2], (s.elapse 0).cab.conditions[j] = ⟨0, .none, false⟩) := by decide

/-- A framer in `st` with these bytes received without framing error, the last at 0. -/
def framed (st : FramerState) (bytes : List Byte) : State :=
  live.withLink { live.link with framer := ⟨st, bytes.map (⟨·, false⟩), 0, false⟩ }

/-- Bytes stored in each state, at the bounds of LEN and with the last payload byte; each framer state is
that state when the byte begins. -/
theorem witness_BytesAndGapsMoveTheFramer_stored :
    (∀ x ∈ [(FramerState.hunt, ([] : List Byte)), (.len, [0xC3]), (.kind, [0xC3, 250]), (.tag, [0xC3, 0, 1]),
        (.tag, [0xC3, 1, 1]), (.payload, [0xC3, 2, 1, 1]), (.payload, [0xC3, 2, 1, 1, 7]),
        (.crcHigh, [0xC3, 0, 0x13, 5])],
      let fr := ((framed x.1 x.2).elapseByte 10).link.framer
      fr.st = x.1 ∧ fr.buffer.map (·.data) = x.2 ∧ (framed x.1 x.2).inReset = false) ∧
    (0 : Byte).toNat ≤ 250 ∧ (250 : Byte).toNat ≤ 250 := by decide

set_option maxRecDepth 8000 in
/-- CRC_LOW: a whole record, and a wrong CRC whose bytes hold no sync byte, a whole record, or a sync byte at
their end. A record inside the rescan, and one with the framing error at its end. The CRC of the STAMP_NOW
record, 0xCA19, was computed outside the model. -/
theorem witness_BytesAndGapsMoveTheFramer_crc :
    envelope 0x13 5 [] = [0xC3, 0, 0x13, 5, 0xCA, 0x19] ∧
    (∀ bytes ∈ [[0xC3, 0, 0x13, 5, 0xCA], [0xC3, 1, 0xC3, 0, 0x13, 5], [0xC3, 6, 7, 8] ++ envelope 0x13 5 [] ++ [0]],
      let fr := ((framed .crcLow bytes).elapseByte 10).link.framer
      fr.st = .crcLow ∧ fr.buffer.map (·.data) = bytes) ∧
    (∀ x ∈ [([0xC3, 0, 0x13, 5, 0xCA], (0x18 : Byte)), ([0xC3, 6, 7, 8] ++ envelope 0x13 5 [] ++ [0], 1),
        ([0xC3, 0, 0x13, 5, 0xCA], 0xC3)],
      x.1.length = (x.1.getD 1 0).toNat + 5 ∧ goodRecord (x.1 ++ [x.2]) = none) := by decide

/-- The gap expires on a buffer without a sync byte after the first, with a whole record, and with a candidate
still incomplete. -/
theorem witness_BytesAndGapsMoveTheFramer_gap :
    ∀ bytes ∈ [[0xC3], [0xC3, 0, 0x13, 5, 0xCA], 0xC3 :: envelope 0x13 5 [], [0xC3, 0xC3],
        [0xC3, 9, 0xC3, 250, 0]],
      (framed .payload bytes).comes .gap 101 := by decide

/-- Records of given length on the line, at each rate: 12 and 7 bytes, the next record in each kind of place. -/
theorem witness_TransmitterChoosesByPrecedence_ends :
    let fs : FrameStartRecord := ⟨0, .free, 0, .live⟩
    let r : Reply := ⟨0x81, 0, .ok, .bare⟩
    let base (rate : LineRate) (tx : Transmitter) (replies : List Reply) : State :=
      live.withLink { live.link with rate := rate, tx := tx, txStart := 0, replies := replies }
    (∀ x ∈ [(LineRate.one, (120 : Instant), (70 : Instant)), (.two, 60, 35), (.four, 30, 18)],
      (base x.1 (.frameStart fs) []).comes .recordSent x.2.1 ∧
        (base x.1 .reply [r]).comes .recordSent x.2.2 ∧ (base x.1 .reply [r, r]).comes .recordSent x.2.2) ∧
    (base .one .reply [{ r with body := .channel 0 none }]).link.lengthOnLine = none ∧
      live.link.lengthOnLine = none := by decide

theorem witness_PacketsCarryTheirValuesAndSum :
    let k : Packet := { cue300 with firstSlot := 31, count := 32, frame := 0xFFFF }
    k.firstSlot ≤ 31 ∧ k.count ≤ 32 ∧ k.kind ≠ .echo ∧
      (⟨.echo, 0, 0, 0, true, true, 255, [], none, none⟩ : Packet).kind = .echo := by decide

/-! ### The line's times (10.1, 10.3) -/

/-- FRAME_START, 12 bytes at the first rate, ends by itself 120 microseconds after its start. -/
theorem test_frameStart_record_ends :
    let s := live.withLink { live.link with tx := .frameStart ⟨0, .free, 0, .live⟩, txStart := 0 }
    (s.elapse 120).link.tx ≠ .idle ∧ (s.elapse 121).link.tx = .idle := by decide

/-- A command between a byte and the next one, whose start bit begins 95 microseconds after the last byte:
the gap does not expire (R176). With the byte's start bit at 102 it does. -/
theorem test_gap_sees_the_start_bit :
    let s (dt : Nat) : State := { framed .kind [0xC3, 0] with pending := [.byteReceived dt 7 false] }
    ((s 2).elapse 103).link.framer.st = .kind ∧ ((s 9).elapse 103).link.framer.st = .hunt := by decide

/-- A candidate open since 0, its frame ending at 102, with these rows waiting. -/
def beforeGap (rows : List Sys2Proof.Instr) : State :=
  let s := framed .kind [0xC3, 0]
  { s with clock := { s.clock with frameEnd := 102 }, pending := rows }

/-- The rows of own events take no part in where a byte's start bit lies: behind two of them it begins at 93,
and the gap does not expire; at 2093 it does (R176). -/
theorem test_gap_across_own_events :
    let rows (dt : Nat) : List Sys2Proof.Instr := [.frameStart, .packetComplete .cab, .byteReceived dt 7 false]
    (after .frameStart (beforeGap (rows 103))).link.framer.st = .kind ∧
      (after .frameStart (beforeGap (rows 2103))).link.framer.st = .hunt := by decide

/-- A command counts its time from the last one from outside, whatever own events come between (log 1). -/
theorem test_dt_across_own_events :
    let t := after .frameStart (beforeGap [])
    t.now = 102 ∧ (after (.waitAssert 105 .cab) t).now = 105 ∧ (after (.waitAssert 3 .cab) t).now = 102 := by
  decide

/-- A frame start and the release of N_b at one instant, with an echo issued there: taken first, the frame start
gives the line to the echo and the CUE waits; taken second, it finds the CUE on the line (R109, R132). -/
theorem test_frameStart_and_release_in_either_order :
    let b := { live.port .cab with sched := some ⟨2, 2000, 2200, false⟩, latCue := 1800 }
    let s := live.withPort .cab { b with echo := { b.echo with intervalCount := 49 } }
    let line (s : State) : Option PacketKind × Option Bool :=
      ((s.port .cab).inFlight.map (·.packet.kind), (s.port .cab).sched.map (·.due))
    line (after .frameStart s) = (some .echo, some false) ∧
      line (after (.release .cab) (after .frameStart s)) = (some .echo, some true) ∧
      line (after .frameStart (after (.release .cab) s)) = (some .cue, some false) := by decide

/-- ARM between the words of a report: those that came before it are not taken, and the first one after it is a
kind word (R187). -/
theorem test_report_across_arm :
    let s := after (.arm 0 1 noRamp) State.reset
    let heard (c : Sys2Proof.Instr) : Option Inbound × Nat :=
      (((after c s).port .cab).inbound, ((after c s).port .cab).rxErrors)
    heard (.presented 2 .cab 5 1) = (some ⟨[3], 2⟩, 0) ∧ heard (.presented 2 .cab 5 7) = (none, 1) ∧
      heard (.presented 2 .cab 2 7) = (none, 0) := by decide

end Sys2Proof.Tests
end

/-! ### The reply queue at a frame start

A notice takes its slot and the FRAME_START record its own, and the transmitter chooses among them: no
step of a frame start adds to the reply queue or takes from it (R179, R181, R182). -/

namespace Sys2Proof.Machine

variable (s : State)

@[simp] theorem Link.placed_replies (now : Instant) (late : Bool) (l : Link) :
    (l.placed now late).replies = l.replies := by
  cases late <;> simp [Link.placed]

@[simp] theorem State.kick_replies : s.kick.link.replies = s.link.replies := by
  simp [State.kick]

@[simp] theorem State.placeSlots_replies (n : NoticeSlots) :
    (s.placeSlots n).link.replies = s.link.replies := by
  simp [State.placeSlots]

@[simp] theorem State.placeFrameStart_replies (r : FrameStartRecord) :
    (s.placeFrameStart r).link.replies = s.link.replies := by
  simp [State.placeFrameStart]

@[simp] theorem State.placeState_replies (n : StateNotice) :
    (s.placeState n).link.replies = s.link.replies :=
  s.placeSlots_replies _

@[simp] theorem State.placeClock_replies (n : ClockNotice) :
    (s.placeClock n).link.replies = s.link.replies :=
  s.placeSlots_replies _

@[simp] theorem State.placePort_replies (n : PortNotice) :
    (s.placePort n).link.replies = s.link.replies :=
  s.placeSlots_replies _

@[simp] theorem State.placeLate_replies (n : LateNotice) :
    (s.placeLate n).link.replies = s.link.replies :=
  s.placeSlots_replies _

@[simp] theorem State.placeOutcomes_replies (n : OutcomesNotice) :
    (s.placeOutcomes n).link.replies = s.link.replies :=
  s.placeSlots_replies _

/-! The clock -/

@[simp] theorem State.noteClock_replies (left : ClockState) (cause : ClockCause) :
    (s.noteClock left cause).link.replies = s.link.replies := by
  unfold State.noteClock
  split <;> simp

@[simp] theorem State.clockFrameStart_replies :
    s.clockFrameStart.link.replies = s.link.replies := by
  simp [State.clockFrameStart]

/-! The event queue -/

@[simp] theorem State.settleEntry_replies (e : Entry) :
    (s.settleEntry e).link.replies = s.link.replies := by
  unfold State.settleEntry
  split <;> simp

theorem State.settleAll_replies (es : List Entry) (s : State) :
    (es.foldl State.settleEntry s).link.replies = s.link.replies := by
  induction es generalizing s with
  | nil => rfl
  | cons e es ih => simpa using ih (s.settleEntry e)

@[simp] theorem State.settle_replies : s.settle.link.replies = s.link.replies :=
  State.settleAll_replies s.queue s

@[simp] theorem State.refreshEvents_replies (which : Port → Bool) :
    (s.refreshEvents which).link.replies = s.link.replies := by
  simp [State.refreshEvents]

@[simp] theorem State.expireEvents_replies : s.expireEvents.link.replies = s.link.replies := by
  simp [State.expireEvents]

@[simp] theorem State.flushEvents_replies : s.flushEvents.link.replies = s.link.replies := by
  simp [State.flushEvents]

@[simp] theorem State.flushUnsent_replies : s.flushUnsent.link.replies = s.link.replies := by
  simp [State.flushUnsent]

/-! The schedulers and the port arbiters -/

@[simp] theorem State.skipOne_replies (p : Port) (sc : Schedule) :
    (s.skipOne p sc).link.replies = s.link.replies := by
  unfold State.skipOne
  dsimp only
  split <;> simp

@[simp] theorem State.skipPast_replies (p : Port) (n : Nat) (s : State) :
    (s.skipPast p n).link.replies = s.link.replies := by
  induction n generalizing s with
  | zero => rfl
  | succ n ih =>
    unfold State.skipPast
    split
    · split
      · simp [ih]
      · rfl
    · rfl

@[simp] theorem State.startCue_replies (p : Port) :
    (s.startCue p).link.replies = s.link.replies := by
  unfold State.startCue
  split <;> simp

@[simp] theorem State.startClaim_replies (p : Port) (c : Claim) :
    (s.startClaim p c).link.replies = s.link.replies := by
  cases c <;> simp [State.startClaim]

@[simp] theorem State.grant_replies (p : Port) : (s.grant p).link.replies = s.link.replies := by
  unfold State.grant
  split
  · split <;> simp
  · rfl

@[simp] theorem State.grantAll_replies : s.grantAll.link.replies = s.link.replies := by
  simp [State.grantAll]

@[simp] theorem State.expirePort_replies (p : Port) :
    (s.expirePort p).link.replies = s.link.replies := by
  simp [State.expirePort]

@[simp] theorem State.expireAll_replies : s.expireAll.link.replies = s.link.replies := by
  simp [State.expireAll]

@[simp] theorem State.finishLines_replies : s.finishLines.link.replies = s.link.replies := by
  simp [State.finishLines]

@[simp] theorem State.deliveryFrameStart_replies (renumbering : Bool) :
    (s.deliveryFrameStart renumbering).link.replies = s.link.replies := by
  cases renumbering <;> simp [State.deliveryFrameStart]

/-! The hub controller -/

@[simp] theorem State.changeHub_replies (new : HubState) (reason : HaltReason) (f : Nat)
    (cause : StateCause) : (s.changeHub new reason f cause).link.replies = s.link.replies := by
  simp [State.changeHub]

@[simp] theorem State.enterPaused_replies (cause : StateCause) :
    (s.enterPaused cause).link.replies = s.link.replies := by
  simp [State.enterPaused]

@[simp] theorem State.enterHalted_replies (reason : HaltReason) (cause : StateCause) :
    (s.enterHalted reason cause).link.replies = s.link.replies := by
  simp [State.enterHalted]

@[simp] theorem State.rampStep_replies : s.rampStep.link.replies = s.link.replies := by
  unfold State.rampStep
  split
  case h_1 => extract_lets f; split <;> simp
  case h_2 => extract_lets f; split <;> simp
  case h_3 => rfl

@[simp] theorem State.clockLost_replies : s.clockLost.link.replies = s.link.replies := by
  unfold State.clockLost
  split <;> simp

@[simp] theorem State.handFrameStart_replies : s.handFrameStart.link.replies = s.link.replies := by
  unfold State.handFrameStart
  split <;> simp

@[simp] theorem State.controllerFrameStart_replies (expired : Bool) :
    (s.controllerFrameStart expired).link.replies = s.link.replies := by
  unfold State.controllerFrameStart
  split
  · split <;> simp
  · simp

@[simp] theorem State.recordAndStep_replies (expired : Bool) :
    (s.recordAndStep expired).link.replies = s.link.replies := by
  unfold State.recordAndStep
  split <;> simp

@[simp] theorem State.sourcesFrameStart_replies (renumbering expired : Bool) :
    (s.sourcesFrameStart renumbering expired).link.replies = s.link.replies := by
  simp [State.sourcesFrameStart]

/-! The echoes -/

@[simp] theorem State.notePort_replies (p : Port) (left : PortState) (cause : PortCause) :
    (s.notePort p left cause).link.replies = s.link.replies := by
  unfold State.notePort
  split <;> simp

@[simp] theorem State.losePort_replies (p : Port) :
    (s.losePort p).link.replies = s.link.replies := by
  simp [State.losePort]

@[simp] theorem State.portLost_replies (p : Port) :
    (s.portLost p).link.replies = s.link.replies := by
  unfold State.portLost
  split
  · split <;> simp
  · rfl

@[simp] theorem State.echoFrameStart_replies (p : Port) :
    (s.echoFrameStart p).link.replies = s.link.replies := by
  unfold State.echoFrameStart
  dsimp only
  split <;> simp

theorem State.echoesOf_replies (ps : List Port) (s : State) :
    (ps.foldl (fun s p => s.echoFrameStart p) s).link.replies = s.link.replies := by
  induction ps generalizing s with
  | nil => rfl
  | cons p ps ih => simpa using ih (s.echoFrameStart p)

@[simp] theorem State.echoesFrameStart_replies :
    s.echoesFrameStart.link.replies = s.link.replies :=
  State.echoesOf_replies s.portOrder s

/-! The frame start whole -/

@[simp] theorem State.frameStart_replies : s.frameStart.link.replies = s.link.replies := by
  unfold State.frameStart
  dsimp only
  split <;> simp

@[simp] theorem State.settleFrame_replies : s.settleFrame.link.replies = s.link.replies := by
  unfold State.settleFrame
  split <;> simp

end Sys2Proof.Machine

/-! ### The clock at a frame start

The frame that begins and the count of the frame that ends are apart: the first moves the number, the ring
and the frame end, the second the clock state and its counts (R2, R3, R12, R14, R15). -/

namespace Sys2Proof.Machine

/-- The count of the frame that ends leaves the frame that begins as it is. -/
@[simp] theorem Clock.countFrame_frame (captured : Bool) (c : Clock) :
    (c.countFrame captured).set = c.set ∧ (c.countFrame captured).cueTime = c.cueTime ∧
    (c.countFrame captured).current = c.current ∧ (c.countFrame captured).ring = c.ring ∧
    (c.countFrame captured).captured = c.captured ∧ (c.countFrame captured).lastE = c.lastE ∧
    (c.countFrame captured).trim = c.trim ∧ (c.countFrame captured).frameEnd = c.frameEnd := by
  unfold Clock.countFrame
  cases c.st <;> dsimp only
  case free => simp
  case acquire => split <;> simp
  case locked =>
    split
    · simp
    · split <;> simp [Clock.toHoldover]
  case holdover =>
    split
    · simp
    · split <;> simp

theorem Clock.start_of_ring {c : Clock} {e : RingEntry} {ring : List RingEntry}
    (h : c.ring = e :: ring) : c.start = e.start := by
  simp [Clock.start, h]

/-- The newest entry of the ring is that of the frame that begins at now (R3). -/
theorem Clock.nextRing_eq_cons (c : Clock) :
    ∃ ring, c.nextRing = ⟨c.nextFrame, c.cueTime⟩ :: ring := by
  unfold Clock.nextRing
  split
  · next h => exact ⟨[], by simp [Clock.nextFrame, h]⟩
  · exact ⟨_, rfl⟩

/-- New settings, and the frame in progress re-fixed by them, in one update (R6). -/
theorem Clock.refix_withSet (c : Clock) (m : ClockSettings) :
    { c with set := m }.refix =
      { c with set := m, trim := 0, frameEnd := c.start + micro m.frameLen } := rfl

@[simp] theorem Clock.frameStart_set (c : Clock) : c.frameStart.set = c.set := by
  simp [Clock.frameStart, Clock.beginFrame]

@[simp] theorem Clock.frameStart_current (c : Clock) : c.frameStart.current = c.nextFrame := by
  simp [Clock.frameStart, Clock.beginFrame]

@[simp] theorem Clock.frameStart_start (c : Clock) : c.frameStart.start = c.cueTime := by
  obtain ⟨ring, hring⟩ := c.nextRing_eq_cons
  have h : c.frameStart.ring = ⟨c.nextFrame, c.cueTime⟩ :: ring := by
    simp [Clock.frameStart, Clock.beginFrame, hring]
  exact Clock.start_of_ring h

@[simp] theorem State.clockFrameStart_clock (s : State) :
    s.clockFrameStart.clock = s.clock.frameStart := by
  simp [State.clockFrameStart]

/-- No other block of the hub moves the clock in a frame start (R2). -/
@[simp] theorem State.frameStart_clock (s : State) : s.frameStart.clock = s.clock.frameStart := by
  unfold State.frameStart
  dsimp only
  split <;> simp

theorem State.settleFrame_of_ended {s : State} (h : s.frameEnded = true) :
    s.settleFrame = s.frameStart := by
  simp [State.settleFrame, h]

theorem State.settleFrame_of_running {s : State} (h : s.frameEnded = false) : s.settleFrame = s := by
  simp [State.settleFrame, h]

@[simp] theorem State.settleFrame_set (s : State) : s.settleFrame.clock.set = s.clock.set := by
  unfold State.settleFrame
  split <;> simp

end Sys2Proof.Machine

/-! ### SET_CLOCK (R5, R6) -/

namespace Sys2Proof.Machine

@[simp] theorem State.replied_clock (kind tag : Byte) (result : Result) (body : ReplyBody) (s : State) :
    (s.replied kind tag result body).clock = s.clock := by
  simp [State.replied]

@[simp] theorem State.replied_replies (kind tag : Byte) (result : Result) (body : ReplyBody)
    (s : State) :
    (s.replied kind tag result body).link.replies = s.link.replies ++ [⟨kind, tag, result, body⟩] :=
  s.pushReply_replies _

/-- A request that finds room for its reply is answered by its owner, in the state in which its record is
taken (R178). -/
theorem request_of_canAnswer {s : State} {dt : Nat} (kind tag : Byte) (owner : State → Answer)
    (h : s.canAnswer dt) :
    request dt kind tag owner s =
      (owner (s.taken dt)).state.replied (replyKind kind) tag (owner (s.taken dt)).result
        (owner (s.taken dt)).body := by
  obtain ⟨hrun, hroom⟩ := h
  exact (outside_of_running dt _ hrun).trans (answer_of_room kind tag owner hroom)

theorem exec_setClock {s : State} {dt : Nat} {tag : Byte} {q : ClockRequest} {a : Answer}
    (h : s.canAnswer dt) (ha : (s.taken dt).ownSetClock q = a) :
    exec (.setClock dt tag q) s = .next (a.state.replied 0x82 tag a.result a.body) := by
  subst ha
  exact congrArg Host.Outcome.next (request_of_canAnswer 0x02 tag (State.ownSetClock q) h)

theorem namesFixed_iff (q : ClockRequest) :
    ClockRequest.namesFixed q = true ↔
      q.mask.getLsbD 0 = true ∨ q.mask.getLsbD 1 = true ∨ q.mask.getLsbD 2 = true := by
  simp only [ClockRequest.namesFixed, Bool.or_eq_true, or_assoc]

namespace ClockSettings

/-- The source of the merged record; none when the request's code names no source. -/
def mergedSource (q : ClockRequest) (c : ClockSettings) : Option ClockSource :=
  pick q.mask 0 (clockSourceOf q.source) (some c.source)

/-- The merged record of R5, before its check; a source that is none stays as held. -/
def merged (q : ClockRequest) (c : ClockSettings) : ClockSettings where
  source := (c.mergedSource q).getD c.source
  frameLen := pick q.mask 1 q.frameLen.toNat c.frameLen
  presentPhase := pick q.mask 2 q.presentPhase.toNat c.presentPhase
  trimMax := pick q.mask 3 q.trimMax.toNat c.trimMax
  lockWindow := pick q.mask 4 q.lockWindow.toNat c.lockWindow
  nLock := pick q.mask 5 q.nLock.toNat c.nLock
  missLimit := pick q.mask 6 q.missLimit.toNat c.missLimit
  holdoverMax := pick q.mask 7 q.holdoverMax.toNat c.holdoverMax

/-- Every field of the merged record is in range. -/
def mergeFits (q : ClockRequest) (c : ClockSettings) : Prop :=
  c.mergedSource q ≠ none ∧ (c.merged q).inRange = true

/-- The ranges of 1.5 field by field, PRESENT_PHASE against the merged FRAME_LEN (R5). -/
theorem mergeFits_iff {q : ClockRequest} {c : ClockSettings} :
    c.mergeFits q ↔
      let m := c.merged q
      c.mergedSource q ≠ none ∧ 1000 ≤ m.frameLen ∧ m.frameLen ≤ 20000 ∧
        m.presentPhase < m.frameLen ∧ 1 ≤ m.trimMax ∧ m.trimMax ≤ 255 ∧ 1 ≤ m.lockWindow ∧
        m.lockWindow ≤ 1000 ∧ 1 ≤ m.nLock ∧ m.nLock ≤ 31 ∧ 1 ≤ m.missLimit ∧ m.missLimit ≤ 15 ∧
        1 ≤ m.holdoverMax ∧ m.holdoverMax ≤ 1000 := by
  unfold mergeFits inRange
  rw [decide_eq_true_iff]

theorem merge_of_fits {q : ClockRequest} {c : ClockSettings} (h : c.mergeFits q) :
    c.merge q = some (c.merged q) := by
  obtain ⟨hsource, hrange⟩ := h
  obtain ⟨source, hsome⟩ := Option.ne_none_iff_exists'.mp hsource
  simp only [merged, hsome, Option.getD_some] at hrange ⊢
  unfold mergedSource at hsome
  simp only [merge, hsome, hrange, if_true]

theorem merge_of_not_fits {q : ClockRequest} {c : ClockSettings} (h : ¬c.mergeFits q) :
    c.merge q = none := by
  unfold merge
  split
  · rfl
  · next source hsome =>
    have hsource : c.mergedSource q = some source := hsome
    refine if_neg fun hrange => h ⟨by simp [hsource], ?_⟩
    simpa [merged, hsource] using hrange

end ClockSettings

namespace State

variable {s : State} {m : ClockSettings}

/-! The write, and the frame in progress re-fixed by a change of FRAME_LEN (R6) -/

theorem writeClock_of_frameLen_eq (h : m.frameLen = s.clock.set.frameLen) :
    s.writeClock m = s.withClock { s.clock with set := m } := by
  simp [writeClock, h]

theorem writeClock_of_frameLen_ne (h : m.frameLen ≠ s.clock.set.frameLen) :
    s.writeClock m = (s.withClock { s.clock with set := m }.refix).settleFrame := by
  simp [writeClock, h]

/-- A FRAME_LEN that has not run out leaves the frame in progress with its new end and no trim (R6). -/
theorem writeClock_of_running (hlen : m.frameLen ≠ s.clock.set.frameLen)
    (hend : reached (s.clock.start + micro m.frameLen) s.now = false) :
    s.writeClock m = s.withClock { s.clock with set := m }.refix := by
  rw [writeClock_of_frameLen_ne hlen]
  exact settleFrame_of_running hend

/-- A FRAME_LEN that has run out ends the frame at the change, and the next one begins there (R6). -/
theorem writeClock_of_ended (hlen : m.frameLen ≠ s.clock.set.frameLen)
    (hend : reached (s.clock.start + micro m.frameLen) s.now = true) :
    s.writeClock m = (s.withClock { s.clock with set := m }.refix).frameStart := by
  rw [writeClock_of_frameLen_ne hlen]
  exact settleFrame_of_ended hend

/-- The settings held after the write are those written. -/
@[simp] theorem writeClock_set (m : ClockSettings) (s : State) : (s.writeClock m).clock.set = m := by
  unfold writeClock
  dsimp only
  split
  · rfl
  · simp [Clock.refix_withSet]

@[simp] theorem writeClock_replies (m : ClockSettings) (s : State) :
    (s.writeClock m).link.replies = s.link.replies := by
  unfold writeClock
  dsimp only
  split <;> simp

/-! The three steps of R5 -/

variable {q : ClockRequest}

theorem ownSetClock_of_wrongState (hst : s.ctrl.st ≠ .setup) (hfixed : ClockRequest.namesFixed q = true) :
    s.ownSetClock q = ⟨s, .wrongState, .clock s.clock.set⟩ := by
  simp [ownSetClock, hst, hfixed]

theorem ownSetClock_of_not_fits (hst : s.ctrl.st = .setup ∨ ¬ClockRequest.namesFixed q = true)
    (hfits : ¬s.clock.set.mergeFits q) :
    s.ownSetClock q = ⟨s, .badValue, .clock s.clock.set⟩ := by
  have hpass : ¬(s.ctrl.st ≠ .setup ∧ ClockRequest.namesFixed q = true) := by tauto
  simp [ownSetClock, hpass, ClockSettings.merge_of_not_fits hfits]

theorem ownSetClock_of_fits (hst : s.ctrl.st = .setup ∨ ¬ClockRequest.namesFixed q = true)
    (hfits : s.clock.set.mergeFits q) :
    s.ownSetClock q =
      ⟨s.writeClock (s.clock.set.merged q), .ok, .clock (s.clock.set.merged q)⟩ := by
  have hpass : ¬(s.ctrl.st ≠ .setup ∧ ClockRequest.namesFixed q = true) := by tauto
  simp [ownSetClock, hpass, ClockSettings.merge_of_fits hfits]

end State

end Sys2Proof.Machine

section
open Sys2Proof Sys2Proof.Machine

/-- Settles O11: the three steps of R5 in their order, and the write of a changed FRAME_LEN by R6. -/
theorem setClockUpdatesTheSettings : Obligations.SetClockUpdatesTheSettings := by
  unfold Obligations.SetClockUpdatesTheSettings
  intro dt tag q s hroom u held refused fixedNamed source m inRange
  have hfixed : ClockRequest.namesFixed q = true ↔ fixedNamed := namesFixed_iff q
  have hfits : held.mergeFits q ↔ inRange := ClockSettings.mergeFits_iff
  have hwritten (hst : u.ctrl.st = .setup ∨ ¬fixedNamed) (hin : inRange) :
      exec (.setClock dt tag q) s = .next ((u.writeClock m).replied 0x82 tag .ok (.clock m)) :=
    exec_setClock hroom (State.ownSetClock_of_fits (by rwa [hfixed]) (hfits.mpr hin))
  refine ⟨fun hst hf => ?_, fun hst hin => ?_, fun hst hin hlen => ?_, fun hst hin hlen => ?_⟩
  · exact exec_setClock hroom (State.ownSetClock_of_wrongState hst (hfixed.mpr hf))
  · exact exec_setClock hroom (State.ownSetClock_of_not_fits (by rwa [hfixed]) (hin ∘ hfits.mp))
  · rw [hwritten hst hin, State.writeClock_of_frameLen_eq hlen]
  · intro newEnd
    refine ⟨_, hwritten (.inl hst) hin, ?_, ?_, fun hend => ?_, fun hend => ?_⟩
    · simp
    · simp
    · rw [State.writeClock_of_running hlen hend, State.replied_clock]
      exact Clock.refix_withSet u.clock m
    · rw [State.writeClock_of_ended hlen hend, Clock.refix_withSet]
      simp [Clock.nextFrame, State.now]

end

/-! ### SAMPLES pairs (R43 to R46) -/

namespace Sys2Proof.Machine

@[simp] theorem diff_self (t : Instant) : diff t t = 0 := by
  simp [diff]

namespace Stream

/-- The newest sample is replaced whole; with its instant unchanged this is `equal` (R46). -/
def replaceNewest (x : Sample) : Stream → Stream
  | .empty => .empty
  | .single _ => .single x
  | .tracking o _ => .tracking o x
  | .stale _ a => .stale x a

theorem equal_eq_replaceNewest {s : Stream} {n x : Sample} (hn : s.newest = some n)
    (heq : x.instant = n.instant) : s.equal x.value = s.replaceNewest x := by
  obtain ⟨v, t⟩ := x
  cases s <;> simp_all [newest, equal, replaceNewest]

/-- An EMPTY channel has nothing to compare with (R45). -/
theorem take_of_newest_none {s : Stream} (x : Sample) (hn : s.newest = none) :
    s.take x = (s.newer x, false) := by
  simp [take, hn]

/-- The three classes of R44 to R46, for a channel with a sample present. -/
theorem take_of_newest {s : Stream} {n : Sample} (x : Sample) (hn : s.newest = some n) :
    s.take x =
      if s.staleAge = 255 ∨ 0 < diff x.instant n.instant then (s.newer x, false)
      else if x.instant = n.instant then (s.replaceNewest x, false)
      else (s, true) := by
  simp only [take, hn]
  by_cases hage : s.staleAge = 255
  · simp [hage]
  by_cases hlater : 0 < diff x.instant n.instant
  · simp [hlater]
  by_cases heq : x.instant = n.instant
  · simp [hage, heq, equal_eq_replaceNewest hn heq]
  · simp [hage, hlater, heq]

end Stream

namespace State

variable {t : Instant} {s : State} {x : Byte × Cue}

theorem takePair_of_no_channel (h : 48 ≤ x.1.toNat) :
    takePair t s x = s.withDiscards (countUp 65535 1 s.discards) :=
  dif_neg h.not_gt

/-- Channel `i` takes this stream and keeps its settings. -/
def withStream (s : State) (i : Nat) (h : i < 48) (stream : Stream) : State :=
  s.withChannels (s.channels.set i { s.channels[i] with stream := stream })

/-- A pair for a channel of the table acts by what its stream does with the sample. -/
theorem takePair_of_channel (h : x.1.toNat < 48) {r : Stream × Bool}
    (hr : s.channels[x.1.toNat].stream.take ⟨x.2, t⟩ = r) :
    takePair t s x =
      if r.2 = true then s.withDiscards (countUp 65535 1 s.discards)
      else s.withStream x.1.toNat h r.1 := by
  subst hr
  exact dif_pos h

theorem takePair_of_newest_none (h : x.1.toNat < 48)
    (hn : s.channels[x.1.toNat].stream.newest = none) :
    takePair t s x =
      s.withStream x.1.toNat h (s.channels[x.1.toNat].stream.newer ⟨x.2, t⟩) :=
  takePair_of_channel h (Stream.take_of_newest_none _ hn)

theorem takePair_of_newest {n : Sample} (h : x.1.toNat < 48)
    (hn : s.channels[x.1.toNat].stream.newest = some n) :
    takePair t s x =
      let stream := s.channels[x.1.toNat].stream
      if stream.staleAge = 255 ∨ 0 < diff t n.instant then
        s.withStream x.1.toNat h (stream.newer ⟨x.2, t⟩)
      else if t = n.instant then s.withStream x.1.toNat h (stream.replaceNewest ⟨x.2, t⟩)
      else s.withDiscards (countUp 65535 1 s.discards) := by
  have hpair := takePair_of_channel h (Stream.take_of_newest ⟨x.2, t⟩ hn)
  dsimp only at hpair ⊢
  split_ifs with hnewer hequal
  · rwa [if_pos hnewer] at hpair
  · rwa [if_neg hnewer, if_pos hequal] at hpair
  · rwa [if_neg hnewer, if_neg hequal] at hpair

end State

end Sys2Proof.Machine

section
open Sys2Proof Sys2Proof.Machine

/-- Settles O19: the channel's state says which sample is newest, and the pair's instant against it says its
class (R44 to R46). -/
theorem pairIsNewerEqualOrDiscarded : Obligations.PairIsNewerEqualOrDiscarded := by
  unfold Obligations.PairIsNewerEqualOrDiscarded
  intro t s x counted
  refine ⟨State.takePair_of_no_channel, ?_⟩
  intro h c taken
  have alone (hn : c.stream.newest = none) :
      State.takePair t s x = taken (c.stream.newer ⟨x.2, t⟩) := State.takePair_of_newest_none h hn
  have compared {n : Sample} (hn : c.stream.newest = some n) :
      State.takePair t s x =
        if c.stream.staleAge = 255 ∨ 0 < diff t n.instant then taken (c.stream.newer ⟨x.2, t⟩)
        else if t = n.instant then taken (c.stream.replaceNewest ⟨x.2, t⟩)
        else counted := State.takePair_of_newest h hn
  cases hc : c.stream <;> rw [hc] at alone compared
  case empty => exact alone rfl
  case single n => simpa [Stream.staleAge, Stream.newer, Stream.replaceNewest] using compared rfl
  case tracking o n => simpa [Stream.staleAge, Stream.newer, Stream.replaceNewest] using compared rfl
  case stale n age => exact compared rfl

end

/-! ### SET_CHANNEL (R51) -/

namespace Sys2Proof.Machine

namespace Channel

/-- The stale policy of the merged settings; none when the request's code names no policy. -/
def mergedPolicy (q : ChannelRequest) (c : Channel) : Option StalePolicy :=
  pick q.mask 2 (stalePolicyOf q.stalePolicy) (some c.stalePolicy)

/-- The channel with the merged settings of R51, before their check; a policy that is none stays as held. -/
def merged (q : ChannelRequest) (c : Channel) : Channel where
  stream := c.stream
  leadMax := pick q.mask 0 q.leadMax.toNat c.leadMax
  staleLimit := pick q.mask 1 q.staleLimit.toNat c.staleLimit
  stalePolicy := (c.mergedPolicy q).getD c.stalePolicy
  fadeFrames := pick q.mask 3 q.fadeFrames.toNat c.fadeFrames

/-- Every field of the merged settings is in range. -/
def mergeFits (q : ChannelRequest) (c : Channel) : Prop :=
  c.mergedPolicy q ≠ none ∧ (c.merged q).inRange = true

/-- The ranges of 3.1 field by field. -/
theorem mergeFits_iff {q : ChannelRequest} {c : Channel} :
    c.mergeFits q ↔
      let m := c.merged q
      c.mergedPolicy q ≠ none ∧ m.leadMax ≤ 20000 ∧ 1 ≤ m.staleLimit ∧ m.staleLimit ≤ 255 ∧
        1 ≤ m.fadeFrames ∧ m.fadeFrames ≤ 255 := by
  unfold mergeFits inRange
  rw [decide_eq_true_iff]

theorem merge_of_fits {q : ChannelRequest} {c : Channel} (h : c.mergeFits q) :
    c.merge q = some (c.merged q) := by
  obtain ⟨hpolicy, hrange⟩ := h
  obtain ⟨policy, hsome⟩ := Option.ne_none_iff_exists'.mp hpolicy
  simp only [merged, hsome, Option.getD_some] at hrange ⊢
  unfold mergedPolicy at hsome
  simp only [merge, hsome, hrange, if_true]

theorem merge_of_not_fits {q : ChannelRequest} {c : Channel} (h : ¬c.mergeFits q) :
    c.merge q = none := by
  unfold merge
  split
  · rfl
  · next policy hsome =>
    have hpolicy : c.mergedPolicy q = some policy := hsome
    refine if_neg fun hrange => h ⟨by simp [hpolicy], ?_⟩
    simpa [merged, hpolicy] using hrange

end Channel

/-- A mask of SET_CHANNEL names only the four fields (R186). -/
theorem maskFits_four_iff (mask : Byte) : maskFits mask 4 = true ↔ mask.toNat < 16 := by
  simp [maskFits]

theorem exec_setChannel {s : State} {dt : Nat} {tag : Byte} {q : ChannelRequest} {a : Answer}
    (h : s.canAnswer dt) (ha : (s.taken dt).ownSetChannel q = a) :
    exec (.setChannel dt tag q) s = .next (a.state.replied 0x83 tag a.result a.body) := by
  subst ha
  exact congrArg Host.Outcome.next (request_of_canAnswer 0x03 tag (State.ownSetChannel q) h)

namespace State

variable {s : State} {q : ChannelRequest}

theorem channelBody_of_channel {n : Byte} (h : n.toNat < 48) :
    s.channelBody n = .channel n (some s.channels[n.toNat]) := by
  simp [channelBody, h]

theorem ownSetChannel_of_no_channel (h : 48 ≤ q.channel.toNat) :
    s.ownSetChannel q = ⟨s, .badValue, .channel q.channel none⟩ := by
  simp [ownSetChannel, channelBody, h.not_gt]

theorem ownSetChannel_of_refused (h : q.channel.toNat < 48)
    (hfail : ¬(q.mask.toNat < 16 ∧ s.channels[q.channel.toNat].mergeFits q)) :
    s.ownSetChannel q = ⟨s, .badValue, .channel q.channel (some s.channels[q.channel.toNat])⟩ := by
  rw [← channelBody_of_channel h]
  unfold ownSetChannel
  by_cases hmask : maskFits q.mask 4 = true
  · have hfits : ¬s.channels[q.channel.toNat].mergeFits q :=
      fun hf => hfail ⟨(maskFits_four_iff _).mp hmask, hf⟩
    simp [hmask, h, Channel.merge_of_not_fits hfits]
  · simp [hmask]

theorem ownSetChannel_of_fits (h : q.channel.toNat < 48) (hmask : q.mask.toNat < 16)
    (hfits : s.channels[q.channel.toNat].mergeFits q) :
    s.ownSetChannel q =
      let m := s.channels[q.channel.toNat].merged q
      ⟨s.withChannels (s.channels.set q.channel.toNat m), .ok, .channel q.channel (some m)⟩ := by
  simp [ownSetChannel, (maskFits_four_iff _).mpr hmask, h, Channel.merge_of_fits hfits,
    channelBody_of_channel h]

end State

end Sys2Proof.Machine

section
open Sys2Proof Sys2Proof.Machine

/-- Settles O22: the channel number, then the mask and the merged settings, then the write (R51, R186). -/
theorem setChannelUpdatesTheSettings : Obligations.SetChannelUpdatesTheSettings := by
  unfold Obligations.SetChannelUpdatesTheSettings
  intro dt tag q s hroom u
  refine ⟨fun hno => exec_setChannel hroom (State.ownSetChannel_of_no_channel hno), ?_⟩
  intro h held policy m passes
  have hpasses : q.mask.toNat < 16 ∧ held.mergeFits q ↔ passes :=
    and_congr_right fun _ => Channel.mergeFits_iff
  refine ⟨fun hfail => ?_, fun hpass => ?_⟩
  · exact exec_setChannel hroom (State.ownSetChannel_of_refused h (hfail ∘ hpasses.mp))
  · obtain ⟨hmask, hfits⟩ := hpasses.mpr hpass
    exact exec_setChannel hroom (State.ownSetChannel_of_fits h hmask hfits)

end

/-! ### What a step is made of

Every command but POWER_ON and RESET is a chain of deeds: the changes of time, the hub's own events, what its
records, requests and reports do. A deed leaves the waiting commands, the RESET line, the reply queue and
the framer alone; a reply joins the queue where it has room, and the end of a reply's record takes it out. An invariant of every step is
an invariant of each deed. -/

namespace Sys2Proof.Machine

/-- One thing that the hub does within an event, the reply queue left as it is. The hypotheses are what the
model has checked before it. -/
inductive Deed (s : State) : State → Prop
  | advance (t : Instant) : Deed s (s.advanceTo t)
  | count (n : Nat) : Deed s (s.withOwnTime n)
  | kick : Deed s s.kick
  | linkErrors (n : Nat) : Deed s (s.withLink { s.link with linkErrors := n })
  | overruns (n : Nat) : Deed s (s.withLink { s.link with overruns := n })
  | placeState (n : StateNotice) : Deed s (s.placeState n)
  | frameStart : Deed s s.frameStart
  | capture : Deed s s.clockCapture
  | settings (m : ClockSettings) (hm : m.inRange = true) : Deed s (s.withClock { s.clock with set := m })
  | refix : Deed s (s.withClock s.clock.refix)
  | samples (f : Frame) (u : Word) (xs : List (Byte × Cue)) : Deed s (s.takeSamples f u xs)
  | channels (v : Vector Channel 48) : Deed s (s.withChannels v)
  | gens (v : Vector Generator 4) : Deed s (s.withGens v)
  | cab (c : CabUnit) (hc : c.fifo.length ≤ s.cab.fifo.length) : Deed s (s.withCab c)
  | stamp (x : StampSource) (e : EdgeKind) (t : Instant) : Deed s (s.writeStamp x e t)
  | ramps (q : RampRequest) : Deed s (s.writeRamps q)
  | enterSetup : Deed s s.enterSetup
  | enterArmed (hst : s.ctrl.st = .setup) : Deed s s.enterArmed
  | go (hst : s.ctrl.st = .armed) (hready : s.readyToGo = true) : Deed s (s.enterMotion .command)
  | resume (cause : StateCause) (hst : s.ctrl.st = .paused ∨ s.ctrl.st = .rampOut)
      (hready : s.readyToResume = true) : Deed s (s.enterMotion cause)
  | rampOut (hst : s.ctrl.st = .rampIn ∨ s.ctrl.st = .live) :
      Deed s (s.changeHub .rampOut s.ctrl.reason s.ctrl.f .command)
  | pause (hst : s.ctrl.st = .rampIn ∨ s.ctrl.st = .live) : Deed s (s.enterPaused .command)
  | halt (hst : s.ctrl.st ≠ .setup) : Deed s (s.enterHalted .command .command)
  | writeRoute (i : Fin 64) (m : Route) (hfree : claimHolder s.routes i m = none) : Deed s (s.writeRoute i m)
  | clearRoute (i : Fin 64) : Deed s (s.withRoutes (s.routes.set i Reset.route))
  | config (p : Port) (m : PortConfig) : Deed s (s.withPort p { s.port p with cfg := m })
  | relatency (p : Port) : Deed s (s.relatency p)
  | reguard (p : Port) : Deed s (s.reguard p)
  | finishLines : Deed s s.finishLines
  | enqueue (q : PostRequest) (f : Frame) (used : Nat) (hst : s.admitsEvents = true)
      (hrange : State.postInRange q = true) (htag : ∀ e ∈ s.queue, e.tag ≠ q.eventTag)
      (hroom : s.queue.length < Config.eventQueueSize) : Deed s (s.admitEntry q f used)
  | cancel (tag : Byte) (e : Entry) (hfind : s.queue.find? (fun e => e.tag = tag) = some e)
      (hwaits : State.cancellable e = true) :
      Deed s ((s.mapDests (fun x d => if x.tag = tag then d.drop else d)).settleEntry
        { e with dests := e.dests.map Destination.drop })
  | collect (n : Nat) : Deed s (s.withQueue (State.dropDone n s.queue))
  | beat (p : Port) : Deed s (s.endBeat p)
  | complete (p : Port) : Deed s (s.completePacket p)
  | due (p : Port) (sc : Schedule) (hsc : (s.port p).sched = some sc) :
      Deed s (s.withPort p { s.port p with sched := some { sc with due := true } })
  | releaseDest (tag : Byte) (p : Port) : Deed s (s.mapDest tag p (Destination.release s)).settle
  | partials (p : Port) (keep : Packet → Bool) (n : Nat) :
      Deed s (s.withPort p
        { s.port p with conts := (s.port p).conts.filter keep, partialCount := n })
  | missDest (tag : Byte) (p : Port) :
      Deed s
        (s.mapDest tag p
          (fun d =>
            match d.state with
            | .due _ => { d with state := .missed }
            | _ => d)).settle
  | skip (p : Port) (sc : Schedule) (hsc : (s.port p).sched = some sc) : Deed s (s.skipOne p sc)
  | skipPast (p : Port) (n : Nat) : Deed s (s.skipPast p n)
  | inbound (p : Port) (x : Option Inbound) : Deed s (s.withPort p { s.port p with inbound := x })
  | rxError (p : Port) : Deed s (s.countRxError p)
  | echoReply (p : Port) (arrival : Instant) (number delay turnaround : Word) :
      Deed s (s.takeEchoReply p arrival number delay turnaround)
  | addError (p : Port) (e : WindowEntry) (hst : (s.port p).st = .running) :
      Deed s (s.withPort p ((s.port p).addError e))
  | wait (p : Port) (level : Bool) : Deed s (s.setWait p level)
  | abort (p : Port) (level : Bool) : Deed s (s.setAbort p level)
  | interrupt (p : Port) : Deed s (s.interrupt p)

/-- A deed, a move of the reply queue (R179), or a move of the framer (R173). -/
inductive Act (s : State) : State → Prop
  | deed {t : State} (h : Deed s t) : Act s t
  | reply (r : Reply) (hroom : s.link.replies.length < Config.replyQueueSize) : Act s (s.pushReply r)
  | sent : Act s s.sentRecord
  | framer (fr : Framer) : Act s (s.withFramer fr)

abbrev Deeds : State → State → Prop := Relation.ReflTransGen Deed
abbrev Acts : State → State → Prop := Relation.ReflTransGen Act

theorem Deed.once {s t : State} (h : Deed s t) : Deeds s t := .single h
theorem Deed.then {s t u : State} (h : Deed s t) (hs : Deeds t u) : Deeds s u := .head h hs

theorem Deeds.acts {s t : State} (h : Deeds s t) : Acts s t :=
  h.lift id fun _ _ => Act.deed

/-- What every deed keeps, every chain of deeds keeps. -/
theorem Deeds.keeps {P : State → Prop} (hP : ∀ s t, Deed s t → P s → P t) {s t : State}
    (h : Deeds s t) : P s → P t := by
  induction h with
  | refl => exact id
  | tail _ hd ih => exact hP _ _ hd ∘ ih

theorem Acts.keeps {P : State → Prop} (hP : ∀ s t, Act s t → P s → P t) {s t : State}
    (h : Acts s t) : P s → P t := by
  induction h with
  | refl => exact id
  | tail _ ha ih => exact hP _ _ ha ∘ ih

/-! #### The lines and the own events -/

namespace State

theorem releaseWait_deeds (p : Port) (s : State) : Deeds s (s.releaseWait p) :=
  (Deed.wait p false).then <| Deed.finishLines.then Deed.kick.once

theorem raiseAbort_deeds (p : Port) (s : State) : Deeds s (s.raiseAbort p) :=
  (Deed.abort p true).then <| (Deed.interrupt p).then <| Deed.finishLines.then Deed.kick.once

theorem releaseAbort_deeds (p : Port) (s : State) : Deeds s (s.releaseAbort p) :=
  (Deed.abort p false).then <| Deed.finishLines.then Deed.kick.once

theorem endPacket_deeds (p : Port) (s : State) : Deeds s (s.endPacket p) :=
  (Deed.complete p).then <| Deed.finishLines.then Deed.kick.once

theorem reachRelease_deeds (p : Port) (s : State) : Deeds s (s.reachRelease p) := by
  unfold reachRelease
  split
  · next sc hsc => exact (Deed.due p sc hsc).then <| Deed.finishLines.then Deed.kick.once
  · exact .refl

theorem reachDestination_deeds (tag : Byte) (p : Port) (s : State) :
    Deeds s (s.reachDestination tag p) :=
  (Deed.releaseDest tag p).then <| Deed.finishLines.then Deed.kick.once

theorem reachPartial_deeds (p : Port) (s : State) : Deeds s (s.reachPartial p) :=
  (Deed.partials p _ _).then <| Deed.finishLines.then Deed.kick.once

theorem reachMissed_deeds (tag : Byte) (p : Port) (s : State) : Deeds s (s.reachMissed tag p) :=
  (Deed.missDest tag p).then Deed.kick.once

theorem reachSkip_deeds (p : Port) (s : State) : Deeds s (s.reachSkip p) := by
  unfold reachSkip
  split
  · next sc hsc =>
    exact (Deed.skip p sc hsc).then <| (Deed.skipPast p _).then <| Deed.finishLines.then Deed.kick.once
  · exact .refl

/-! #### Edges and records -/

theorem settleFrame_deeds (s : State) : Deeds s s.settleFrame := by
  unfold settleFrame
  split
  · exact Deed.frameStart.once
  · exact .refl

theorem edge_deeds (s : State) : Deeds s s.edge := by
  unfold edge
  dsimp only
  split
  · exact .refl
  · refine Deed.capture.then ?_
    split
    · exact Deed.frameStart.once
    · exact (settleFrame_deeds _).tail Deed.kick

theorem edgeFrom_deeds (source : ClockSource) (s : State) : Deeds s (s.edgeFrom source) := by
  unfold edgeFrom
  dsimp only
  split
  · exact (settleFrame_deeds s).trans (edge_deeds _)
  · exact settleFrame_deeds s

/-! #### The owners of the requests -/

theorem hubCommand_deeds {q : RampRequest} {accepts : HubState → Bool}
    {check : State → Option (Result × HubDetail)} {act : State → State} {s : State}
    (hact : accepts s.ctrl.st = true → check s = none → Deeds (s.writeRamps q) (act (s.writeRamps q))) :
    Deeds s (s.hubCommand q accepts check act).state := by
  unfold hubCommand
  split
  · exact .refl
  · split
    · exact .refl
    · next haccepts =>
      split
      · exact .refl
      · next hcheck => exact (Deed.ramps q).then (hact (by simpa using haccepts) hcheck)

/-- The ramp fields take no part in the checks of the commands. -/
@[simp] theorem writeRamps_checks (q : RampRequest) (s : State) :
    (s.writeRamps q).ctrl.st = s.ctrl.st ∧ (s.writeRamps q).readyToGo = s.readyToGo ∧
      (s.writeRamps q).readyToResume = s.readyToResume :=
  ⟨rfl, rfl, rfl⟩

theorem commandNone_deeds (q : RampRequest) (s : State) : Deeds s (s.commandNone q).state :=
  hubCommand_deeds fun _ _ => .refl

theorem commandSetup_deeds (q : RampRequest) (s : State) : Deeds s (s.commandSetup q).state := by
  refine hubCommand_deeds fun _ _ => ?_
  unfold actSetup
  split
  · exact .refl
  · exact Deed.enterSetup.once

theorem commandArm_deeds (q : RampRequest) (s : State) : Deeds s (s.commandArm q).state :=
  hubCommand_deeds fun hst _ => (Deed.enterArmed (s := s.writeRamps q) (of_decide_eq_true hst)).once

theorem commandGo_deeds (q : RampRequest) (s : State) : Deeds s (s.commandGo q).state := by
  refine hubCommand_deeds fun hst hcheck => (Deed.go (s := s.writeRamps q) (of_decide_eq_true hst) ?_).once
  by_contra hready
  simp [goCheck, show s.readyToGo ≠ true from hready] at hcheck

theorem commandPause_deeds (q : RampRequest) (s : State) : Deeds s (s.commandPause q).state := by
  refine hubCommand_deeds fun hst _ => ?_
  have hst' : (s.writeRamps q).ctrl.st = .rampIn ∨ (s.writeRamps q).ctrl.st = .live := by
    simpa using hst
  unfold actPause
  split
  · exact (Deed.pause hst').then Deed.finishLines.once
  · exact (Deed.rampOut hst').once

theorem commandResume_deeds (q : RampRequest) (s : State) : Deeds s (s.commandResume q).state := by
  refine hubCommand_deeds fun hst hcheck => (Deed.resume (s := s.writeRamps q) .command (by simpa using hst) ?_).once
  by_contra hready
  simp [resumeCheck, show s.readyToResume ≠ true from hready] at hcheck

theorem commandHalt_deeds (q : RampRequest) (s : State) : Deeds s (s.commandHalt q).state := by
  refine hubCommand_deeds fun hst _ => ?_
  unfold actHalt
  split
  · exact .refl
  · exact (Deed.halt (s := s.writeRamps q) (of_decide_eq_true hst)).then Deed.finishLines.once

theorem ownHubCommand_deeds (p : List Byte) (s : State) : Deeds s (s.ownHubCommand p).state := by
  unfold ownHubCommand
  split
  · exact commandNone_deeds _ s
  · exact commandSetup_deeds _ s
  · exact commandArm_deeds _ s
  · exact commandGo_deeds _ s
  · exact commandPause_deeds _ s
  · exact commandResume_deeds _ s
  · exact commandHalt_deeds _ s
  · exact .refl

/-- A merged record that passes is in range (R5). -/
theorem inRange_of_merge {q : ClockRequest} {c m : ClockSettings} (h : c.merge q = some m) :
    m.inRange = true := by
  by_cases hfits : c.mergeFits q
  · rw [ClockSettings.merge_of_fits hfits] at h
    cases h
    exact hfits.2
  · rw [ClockSettings.merge_of_not_fits hfits] at h
    cases h

theorem writeClock_deeds {m : ClockSettings} (hm : m.inRange = true) (s : State) :
    Deeds s (s.writeClock m) := by
  unfold writeClock
  dsimp only
  split
  · exact (Deed.settings m hm).once
  · exact (Deed.settings m hm).then <| Deed.refix.then (settleFrame_deeds _)

theorem ownSetClock_deeds (q : ClockRequest) (s : State) : Deeds s (s.ownSetClock q).state := by
  unfold ownSetClock
  split
  · exact .refl
  · split
    · exact .refl
    · next m hm => exact writeClock_deeds (inRange_of_merge hm) s

theorem ownSetChannel_deeds (q : ChannelRequest) (s : State) : Deeds s (s.ownSetChannel q).state := by
  unfold ownSetChannel
  dsimp only
  split
  · exact .refl
  · split
    · split
      · exact .refl
      · exact (Deed.channels (s := s) _).once
    · exact .refl

theorem ownSetRoute_deeds (q : RouteRequest) (s : State) : Deeds s (s.ownSetRoute q).state := by
  unfold ownSetRoute
  split
  · exact .refl
  · split
    · split
      · exact .refl
      · unfold judgeRoute
        split
        · exact .refl
        · split
          · exact .refl
          · next hfree => exact (Deed.writeRoute _ _ hfree).once
    · exact .refl

theorem ownClearRoute_deeds (index : Byte) (s : State) : Deeds s (s.ownClearRoute index).state := by
  unfold ownClearRoute
  split
  · next hi =>
    split
    · exact .refl
    · exact (Deed.clearRoute ⟨index.toNat, hi⟩).once
  · exact .refl

theorem ownGetRoute_deeds (index : Byte) (s : State) : Deeds s (s.ownGetRoute index).state := by
  unfold ownGetRoute
  split <;> exact .refl

theorem ownSetGenerator_deeds (q : GeneratorRequest) (s : State) :
    Deeds s (s.ownSetGenerator q).state := by
  unfold ownSetGenerator
  dsimp only
  split
  · exact .refl
  · split
    · split
      · exact .refl
      · split
        · exact (Deed.gens (s := s) _).once
        · exact .refl
    · exact .refl

theorem ownStartGenerator_deeds (index : Byte) (s : State) :
    Deeds s (s.ownStartGenerator index).state := by
  unfold ownStartGenerator
  dsimp only
  split
  · repeat' split
    · exact .refl
    · exact .refl
    · exact .refl
    · exact (Deed.gens (s := s) _).once
  · exact .refl

theorem ownStopGenerator_deeds (index : Byte) (s : State) :
    Deeds s (s.ownStopGenerator index).state := by
  unfold ownStopGenerator
  split
  · exact (Deed.gens (s := s) _).once
  · exact .refl

theorem writePort_deeds (p : Port) (m : PortConfig) (s : State) : Deeds s (s.writePort p m) := by
  unfold writePort
  dsimp only
  split
  · exact .refl
  · refine (Deed.config p m).then <| (Deed.relatency p).then ?_
    split
    · exact Deed.finishLines.once
    · exact (Deed.reguard p).then Deed.finishLines.once

theorem ownSetPort_deeds (q : PortRequest) (s : State) : Deeds s (s.ownSetPort q).state := by
  unfold ownSetPort
  split
  · exact .refl
  · split
    · exact .refl
    · split
      · exact .refl
      · split
        · exact .refl
        · exact writePort_deeds _ _ s

theorem ownGetPort_deeds (n : Byte) (s : State) : Deeds s (s.ownGetPort n).state := by
  unfold ownGetPort
  split <;> exact .refl

theorem ownSetTriggers_deeds (q : TriggersRequest) (s : State) : Deeds s (s.ownSetTriggers q).state := by
  unfold ownSetTriggers
  split
  · exact .refl
  · exact (Deed.cab _ (by exact le_rfl)).once

theorem ownSetResume_deeds (q : ResumeRequest) (s : State) : Deeds s (s.ownSetResume q).state := by
  unfold ownSetResume
  split
  · exact .refl
  · split
    · exact .refl
    · exact (Deed.cab _ (by exact le_rfl)).once

theorem ownStampNow_deeds (s : State) : Deeds s s.ownStampNow.state := by
  unfold ownStampNow
  split
  · exact .refl
  · exact (Deed.stamp _ _ _).once

theorem ownReadStamps_deeds (count : Byte) (s : State) : Deeds s (s.ownReadStamps count).state := by
  unfold ownReadStamps
  split
  · exact (Deed.cab (s := s) _ (by simp)).once
  · exact .refl

theorem postFrom_deeds {q : PostRequest} (base : Frame) {s : State} (hst : s.admitsEvents = true)
    (hrange : postInRange q = true) : Deeds s (s.postFrom q base).state := by
  unfold postFrom
  split
  · exact .refl
  · next hnone =>
    split
    · exact .refl
    · next hroom =>
      split
      · exact .refl
      · refine (Deed.enqueue q _ _ hst hrange ?_ (Nat.lt_of_not_le hroom)).once
        simpa using hnone

theorem ownEventPost_deeds (q : PostRequest) (s : State) : Deeds s (s.ownEventPost q).state := by
  unfold ownEventPost
  split
  · exact .refl
  · next hst =>
    split
    · exact .refl
    · next hrange =>
      split
      · exact .refl
      · split
        · exact .refl
        · exact postFrom_deeds _ (by simpa using hst) (by simpa using hrange)

theorem ownEventCancel_deeds (tag : Byte) (s : State) : Deeds s (s.ownEventCancel tag).state := by
  unfold ownEventCancel
  split
  · exact .refl
  · next e hfind =>
    split
    · next hwaits => exact (Deed.cancel tag e hfind hwaits).once
    · exact .refl

theorem ownReadOutcomes_deeds (count : Byte) (s : State) : Deeds s (s.ownReadOutcomes count).state := by
  unfold ownReadOutcomes
  split
  · exact (Deed.collect _).once
  · exact .refl

theorem ownRequest_deeds (kind : Byte) (p : List Byte) (s : State) :
    Deeds s (s.ownRequest kind p).state := by
  unfold ownRequest
  split
  · exact ownHubCommand_deeds _ s
  · exact ownSetClock_deeds _ s
  · exact ownSetChannel_deeds _ s
  · exact ownSetRoute_deeds _ s
  · exact ownClearRoute_deeds _ s
  · exact ownGetRoute_deeds _ s
  · exact ownSetPort_deeds _ s
  · exact ownGetPort_deeds _ s
  · exact ownSetGenerator_deeds _ s
  · exact ownStartGenerator_deeds _ s
  · exact ownStopGenerator_deeds _ s
  · exact ownSetTriggers_deeds _ s
  · exact ownSetResume_deeds _ s
  · exact ownEventPost_deeds _ s
  · exact ownEventCancel_deeds _ s
  · exact ownReadOutcomes_deeds _ s
  · exact ownStampNow_deeds s
  · exact ownReadStamps_deeds _ s
  · exact .refl
  · exact .refl

theorem judgeRequest_deeds (kind : Byte) (p : List Byte) (s : State) :
    Deeds s (s.judgeRequest kind p).state := by
  unfold judgeRequest
  split
  · exact .refl
  · split
    · exact ownRequest_deeds kind p s
    · exact .refl

/-! #### Reports -/

theorem takeLine_deeds (previous new : Word) (t : Instant) (s : State) (line : Fin 16) :
    Deeds s (takeLine previous new t s line) := by
  unfold takeLine
  dsimp only
  have hstamp : ∀ e : Option EdgeKind, Deeds s
      (match e with | some e => s.writeStamp (.cabLine line) e t | none => s) := by
    rintro (_ | e)
    · exact .refl
    · exact (Deed.stamp _ _ _).once
  split
  · exact (hstamp _).tail (Deed.gens _)
  · exact hstamp _

theorem takeResume_deeds (s : State) (i : Fin 4) : Deeds s (s.takeResume i) := by
  unfold takeResume
  split
  · exact .refl
  · next hst =>
    split
    · next hready => exact (Deed.resume _ (.inl (by simpa using hst)) hready).once
    · exact (Deed.placeState _).once

/-- A fold of deeds is a chain of deeds. -/
theorem foldl_deeds {α : Type} {f : State → α → State} (hf : ∀ s a, Deeds s (f s a)) (xs : List α)
    (s : State) : Deeds s (xs.foldl f s) := by
  induction xs generalizing s with
  | nil => exact .refl
  | cons x xs ih => exact (hf s x).trans (ih (f s x))

theorem evaluateConditions_deeds (previous new : Word) (s : State) :
    Deeds s (s.evaluateConditions previous new) := by
  unfold evaluateConditions
  dsimp only
  split
  · exact (Deed.cab _ (by exact le_rfl)).then (foldl_deeds takeResume_deeds _ _)
  · exact .refl

theorem takeInput_deeds (new : Word) (t : Instant) (s : State) : Deeds s (s.takeInput new t) := by
  unfold takeInput
  dsimp only
  have hlines := foldl_deeds (takeLine_deeds s.cab.previous new t) (List.finRange 16) s
  have hresume := hlines.trans (evaluateConditions_deeds s.cab.previous new _)
  have hlast : ∀ u : State, Deeds u (u.withCab { u.cab with previous := new }).kick :=
    fun u => (Deed.cab _ (by exact le_rfl)).then Deed.kick.once
  exact hresume.trans (hlast _)

theorem takePresented_deeds (p : Port) (arrival : Instant) (frame : Frame) {s : State}
    (hst : (s.port p).st = .running) : Deeds s (s.takePresented p arrival frame) := by
  unfold takePresented
  split
  · exact .refl
  · exact (Deed.addError p _ hst).then <| (Deed.relatency p).then <|
      Deed.finishLines.then Deed.kick.once

theorem takeReport_deeds (p : Port) (arrival : Instant) (words : List Word) (s : State) :
    Deeds s (s.takeReport p arrival words) := by
  unfold takeReport
  split
  · split
    · exact (Deed.echoReply _ _ _ _ _).once
    · exact .refl
  · split
    · split
      · next hst => exact takePresented_deeds _ _ _ hst
      · exact .refl
    · split
      · split
        · exact takeInput_deeds _ _ s
        · exact .refl
      · exact .refl
  · exact .refl

theorem judgeReport_deeds (p : Port) (r : Inbound) (s : State) : Deeds s (s.judgeReport p r) := by
  unfold judgeReport
  split
  · exact takeReport_deeds _ _ _ s
  · exact (Deed.rxError p).once

theorem takeWord_deeds (p : Port) (at_ : Instant) (word : Word) (s : State) :
    Deeds s (s.takeWord p at_ word) := by
  unfold takeWord
  dsimp only
  split
  · exact .refl
  · split
    · split
      · exact (Deed.rxError p).once
      · exact (Deed.inbound p _).once
    · split
      · exact (Deed.inbound p none).then (judgeReport_deeds _ _ _)
      · exact (Deed.inbound p _).once

theorem takeWords_deeds (p : Port) (span : Nat) (words : List Word) (s : State) :
    Deeds s (s.takeWords p span words) := by
  refine foldl_deeds (fun s x => ?_) _ s
  dsimp only
  split
  · exact takeWord_deeds _ _ _ s
  · exact .refl

theorem takeSummed_deeds (p : Port) (span : Nat) (words : List Word) (s : State) :
    Deeds s (s.takeSummed p span words) :=
  takeWords_deeds _ _ _ s

end State

/-! #### The reply queue

No deed touches the reply queue, so a request that had room for its reply has it when its owner is done (R179). -/

namespace State

variable (s : State)

@[simp] theorem placeStamps_replies (n : StampsNotice) :
    (s.placeStamps n).link.replies = s.link.replies :=
  s.placeSlots_replies _

@[simp] theorem writeStamp_replies (x : StampSource) (e : EdgeKind) (t : Instant) :
    (s.writeStamp x e t).link.replies = s.link.replies := by
  unfold writeStamp
  dsimp only
  repeat' split
  all_goals simp

@[simp] theorem clockCapture_replies : s.clockCapture.link.replies = s.link.replies := by
  simp [clockCapture]

@[simp] theorem notePorts_replies (old : Ports) (cause : PortCause) :
    (s.notePorts old cause).link.replies = s.link.replies := by
  simp [notePorts]

@[simp] theorem enterSetup_replies : s.enterSetup.link.replies = s.link.replies := by
  simp [enterSetup]

@[simp] theorem enterArmed_replies : s.enterArmed.link.replies = s.link.replies := by
  simp [enterArmed]

@[simp] theorem enterMotion_replies (cause : StateCause) :
    (s.enterMotion cause).link.replies = s.link.replies := by
  unfold enterMotion
  split <;> simp

@[simp] theorem relatency_replies (p : Port) : (s.relatency p).link.replies = s.link.replies := by
  unfold relatency
  dsimp only
  split <;> simp

@[simp] theorem reguard_replies (p : Port) : (s.reguard p).link.replies = s.link.replies := by
  simp [reguard]

@[simp] theorem enterRunning_replies (p : Port) :
    (s.enterRunning p).link.replies = s.link.replies := by
  unfold enterRunning
  split <;> rfl

@[simp] theorem admitEntry_replies (q : PostRequest) (f : Frame) (used : Nat) :
    (s.admitEntry q f used).link.replies = s.link.replies := by
  unfold admitEntry
  dsimp only
  split <;> simp

@[simp] theorem completePacket_replies (p : Port) :
    (s.completePacket p).link.replies = s.link.replies := by
  unfold completePacket
  dsimp only
  repeat' split
  all_goals simp

@[simp] theorem takeEchoReply_replies (p : Port) (arrival : Instant) (number delay turnaround : Word) :
    (s.takeEchoReply p arrival number delay turnaround).link.replies = s.link.replies := by
  unfold takeEchoReply
  dsimp only
  repeat' split
  all_goals simp

end State

theorem Deed.replies {s t : State} (h : Deed s t) : t.link.replies = s.link.replies := by
  cases h
  case writeRoute => rfl
  case rxError => rfl
  all_goals simp [State.writeRamps, State.endBeat, State.setWait, State.setAbort]

theorem Deeds.replies {s t : State} (h : Deeds s t) : t.link.replies = s.link.replies :=
  h.keeps (P := fun u => u.link.replies = s.link.replies) (fun _ _ hd hs => hd.replies.trans hs) rfl

/-! #### Records from the host -/

namespace State

theorem answer_acts {owner : State → Answer} (howner : ∀ s, Deeds s (owner s).state) (kind tag : Byte)
    (s : State) : Acts s (answer kind tag owner s) := by
  unfold answer
  split
  · exact (Deed.overruns _).once.acts
  · next hroom =>
    refine (howner s).acts.tail (.reply _ ?_)
    rw [(howner s).replies]
    exact Nat.lt_of_not_le hroom

theorem countLinkError_deeds (s : State) : Deeds s s.countLinkError := (Deed.linkErrors _).once

theorem takeRecord_acts (kind tag : Byte) (p : List Byte) (s : State) :
    Acts s (s.takeRecord kind tag p) := by
  unfold takeRecord
  split
  · split
    · exact (Deed.samples _ _ _).once.acts
    · exact (countLinkError_deeds s).acts
  · split
    · split
      · exact (edgeFrom_deeds _ s).acts
      · exact (countLinkError_deeds s).acts
    · exact answer_acts (judgeRequest_deeds kind p) kind tag s

theorem withFramer_acts (fr : Framer) (s : State) : Acts s (s.withFramer fr) :=
  .single (.framer fr)

theorem feed_acts (n : Nat) (bytes : List RxByte) (s : State) : Acts s (feed n bytes s) := by
  induction n generalizing bytes s with
  | zero => exact .refl
  | succ n ih =>
    cases bytes with
    | nil => exact .refl
    | cons b rest =>
      have hunting : Acts s (s.withFramer s.link.framer.hunt) := withFramer_acts _ s
      have counted := hunting.trans (countLinkError_deeds _).acts
      unfold feed
      split
      · exact (withFramer_acts _ s).trans (ih _ _)
      · split
        · exact (hunting.trans (takeRecord_acts _ _ _ _)).trans (ih _ _)
        · exact counted.trans (ih _ _)
      · exact counted.trans (ih _ _)

theorem closeGap_acts (n : Nat) (s : State) : Acts s (closeGap n s) := by
  induction n generalizing s with
  | zero => exact withFramer_acts _ s
  | succ n ih =>
    unfold closeGap
    split
    · exact .refl
    · have hunting : Acts s (s.withFramer s.link.framer.hunt) := withFramer_acts _ s
      have counted := hunting.trans (countLinkError_deeds _).acts
      exact (counted.trans (feed_acts _ _ _)).trans (ih _)

theorem kick_acts (s : State) : Acts s s.kick := Deed.kick.once.acts

theorem receiveByte_acts (b : RxByte) (s : State) : Acts s (s.receiveByte b) :=
  (withFramer_acts _ s).trans (feed_acts _ _ _)

/-! #### The passing of time -/

theorem takeOwn_acts (e : OwnEvent) (s : State) : Acts s (s.takeOwn e) := by
  cases e with
  | frameStart => exact Deed.frameStart.once.acts
  | beatEnd p => exact (Deed.beat p).once.acts
  | complete p => exact (endPacket_deeds p s).acts
  | release p => exact (reachRelease_deeds p s).acts
  | destinationRelease tag p => exact (reachDestination_deeds tag p s).acts
  | partialEnd p => exact (reachPartial_deeds p s).acts
  | missed tag p => exact (reachMissed_deeds tag p s).acts
  | skip p => exact (reachSkip_deeds p s).acts
  | gap => exact (closeGap_acts _ s).trans (kick_acts _)
  | recordSent => exact .single .sent

theorem advanceTo_acts (t : Instant) (s : State) : Acts s (s.advanceTo t) :=
  (Deed.advance t).once.acts

theorem beginByte_acts (s : State) : Acts s s.beginByte := withFramer_acts _ s

theorem withOwnTime_acts (n : Nat) (s : State) : Acts s (s.withOwnTime n) :=
  (Deed.count n).once.acts

theorem passTo_acts (target : Instant) (n : Nat) (s : State) : Acts s (s.passTo target n) := by
  induction n generalizing s with
  | zero => exact advanceTo_acts target s
  | succ n ih =>
    unfold passTo
    split
    · exact ((advanceTo_acts _ s).trans (takeOwn_acts _ _)).trans (ih _)
    · exact advanceTo_acts target s

theorem passFor_acts (dt : Nat) (s : State) : Acts s (s.passFor dt) := by
  unfold passFor
  split
  · exact .refl
  · exact passTo_acts _ _ s

theorem repeat_acts {f : State → State} (hf : ∀ s, Acts s (f s)) (n : Nat) (s : State) :
    Acts s (Nat.repeat f n s) := by
  induction n with
  | zero => exact .refl
  | succ n ih => exact ih.trans (hf _)

theorem pass_acts (dt : Nat) (s : State) : Acts s (s.pass dt) :=
  (repeat_acts (passFor_acts stretch) _ s).trans (passFor_acts _ _)

theorem waitFor_acts (span dt : Nat) (s : State) : Acts s (s.waitFor span dt) := by
  unfold waitFor
  dsimp only
  split
  · exact .refl
  · obtain h | h := s.foresee_cases (s.now + micro (min (dt - s.ownTime) stretch)) span <;> rw [h]
    · exact pass_acts _ s
    · exact (beginByte_acts s).trans (pass_acts _ _)

theorem elapse_acts (dt : Nat) (s : State) : Acts s (s.elapse dt) := by
  unfold elapse
  split
  · exact .refl
  · exact (waitFor_acts dt dt s).trans (withOwnTime_acts 0 _)

theorem elapseOwn_acts (dt : Nat) (s : State) : Acts s (s.elapseOwn dt) := by
  unfold elapseOwn
  split
  · exact .refl
  · exact (waitFor_acts 0 dt s).trans (withOwnTime_acts _ _)

theorem approach_acts (startBit : Bool) (e : OwnEvent) (n : Nat) (s : State) :
    Acts s (s.approach startBit e n) := by
  induction n generalizing s with
  | zero => exact .refl
  | succ n ih =>
    unfold approach
    split
    · exact .refl
    · split
      · next t' e' _ =>
        have htaken : Acts s
            (if e' = .gap ∧ startBit then (s.advanceTo t').beginByte
              else (s.advanceTo t').takeOwn e') := by
          split
          · exact (advanceTo_acts t' s).trans (beginByte_acts _)
          · exact (advanceTo_acts t' s).trans (takeOwn_acts e' _)
        exact htaken.trans (ih _)
      · exact advanceTo_acts _ s

theorem before_acts (e : OwnEvent) (s : State) : Acts s (s.before e) :=
  (approach_acts _ e _ s).trans (withOwnTime_acts _ _)

theorem ownRow_acts (e : OwnEvent) (s : State) : Acts s (s.ownRow e) := by
  unfold ownRow
  split
  · exact .refl
  · split
    · exact (before_acts e s).trans (takeOwn_acts e _)
    · exact before_acts e s

theorem frameRow_acts (brings : State → Bool) (s : State) : Acts s (s.frameRow brings) := by
  unfold frameRow
  split
  · exact .refl
  · split
    · exact (before_acts _ s).trans Deed.frameStart.once.acts
    · exact .refl

theorem elapseByte_acts (dt : Nat) (s : State) : Acts s (s.elapseByte dt) :=
  (((pass_acts _ s).trans (beginByte_acts _)).trans (pass_acts _ _)).trans (withOwnTime_acts 0 _)

theorem byteFromLine_acts (dt : Nat) (b : RxByte) (s : State) : Acts s (s.byteFromLine dt b) := by
  unfold byteFromLine
  split
  · exact .refl
  · exact ((elapseByte_acts dt s).trans (receiveByte_acts b _)).trans (kick_acts _)

end State

/-! #### The commands -/

theorem outside_acts {act : State → State} (hact : ∀ s, Acts s (act s)) (dt : Nat) (s : State) :
    Acts s (outside dt act s) := by
  unfold outside
  split
  · exact .refl
  · exact (State.elapse_acts dt s).trans (hact _)

theorem request_acts {owner : State → Answer} (howner : ∀ s, Deeds s (owner s).state) (dt : Nat)
    (kind tag : Byte) (s : State) : Acts s (request dt kind tag owner s) :=
  outside_acts (fun u => (State.withFramer_acts _ u).trans (State.answer_acts howner kind tag _)) dt s

theorem State.takeSamplesRecord_deeds (frame : Frame) (offset : Word) (pairs : List (Byte × Cue))
    (s : State) : Deeds s (s.takeSamplesRecord frame offset pairs) := by
  unfold State.takeSamplesRecord
  split
  · exact (Deed.samples _ _ _).once
  · exact State.countLinkError_deeds s

theorem State.sentUnstated_acts (s : State) : Acts s s.sentUnstated := by
  unfold State.sentUnstated
  split
  · exact .single .sent
  · exact .refl

/-- A level of WAIT or ABORT moves in RESET at once, and otherwise with what it brings (R104, R105). -/
theorem level_acts {b : Bool} {u t : State} {s : State} (hu : Acts s u) (ht : Acts s t) :
    Acts s (if b = true then u else t) := by
  split
  · exact hu
  · exact ht

theorem State.closeRecord_acts (s : State) : Acts s s.closeRecord := State.withFramer_acts _ s

theorem State.recordSentRow_acts (dt : Nat) (s : State) :
    Acts s
      (if s.inReset then s
      else if s.link.lengthOnLine = none then (s.elapseOwn dt).sentUnstated
      else s.ownRow .recordSent) := by
  split
  · exact .refl
  · split
    · exact (State.elapseOwn_acts dt s).trans (State.sentUnstated_acts _)
    · exact State.ownRow_acts _ s

open State in
/-- Every command but POWER_ON and RESET is a chain of acts. -/
theorem exec_acts (c : Instr) (s : State) (hpower : ∀ a b, c ≠ .powerOn a b)
    (hreset : ∀ dt, c ≠ .reset dt) : ∃ t, exec c s = .next t ∧ Acts s t := by
  cases c with
  | powerOn a b => exact absurd rfl (hpower a b)
  | reset dt => exact absurd rfl (hreset dt)
  | frameStart => exact ⟨_, rfl, ownRow_acts .frameStart s⟩
  | fsync dt => exact ⟨_, rfl, outside_acts (fun u => (edgeFrom_deeds _ u).acts) dt s⟩
  | frameMark dt =>
    exact ⟨_, rfl, outside_acts (fun u => (closeRecord_acts u).trans (edgeFrom_deeds _ _).acts) dt s⟩
  | misses => exact ⟨_, rfl, frameRow_acts _ s⟩
  | holdoverExpired => exact ⟨_, rfl, frameRow_acts _ s⟩
  | setClock dt tag q => exact ⟨_, rfl, request_acts (ownSetClock_deeds q) dt _ tag s⟩
  | cmdNone dt tag q => exact ⟨_, rfl, request_acts (commandNone_deeds q) dt _ tag s⟩
  | setup dt tag q => exact ⟨_, rfl, request_acts (commandSetup_deeds q) dt _ tag s⟩
  | arm dt tag q => exact ⟨_, rfl, request_acts (commandArm_deeds q) dt _ tag s⟩
  | go dt tag q => exact ⟨_, rfl, request_acts (commandGo_deeds q) dt _ tag s⟩
  | pause dt tag q => exact ⟨_, rfl, request_acts (commandPause_deeds q) dt _ tag s⟩
  | resume dt tag q => exact ⟨_, rfl, request_acts (commandResume_deeds q) dt _ tag s⟩
  | halt dt tag q => exact ⟨_, rfl, request_acts (commandHalt_deeds q) dt _ tag s⟩
  | samples dt frame offset pairs =>
    exact ⟨_, rfl, outside_acts
      (fun u => (closeRecord_acts u).trans (takeSamplesRecord_deeds frame offset pairs _).acts) dt s⟩
  | staleEntry _ => exact ⟨_, rfl, frameRow_acts _ s⟩
  | setChannel dt tag q => exact ⟨_, rfl, request_acts (ownSetChannel_deeds q) dt _ tag s⟩
  | setRoute dt tag q => exact ⟨_, rfl, request_acts (ownSetRoute_deeds q) dt _ tag s⟩
  | clearRoute dt tag i => exact ⟨_, rfl, request_acts (ownClearRoute_deeds i) dt _ tag s⟩
  | getRoute dt tag i => exact ⟨_, rfl, request_acts (ownGetRoute_deeds i) dt _ tag s⟩
  | setGenerator dt tag q => exact ⟨_, rfl, request_acts (ownSetGenerator_deeds q) dt _ tag s⟩
  | startGenerator dt tag i => exact ⟨_, rfl, request_acts (ownStartGenerator_deeds i) dt _ tag s⟩
  | stopGenerator dt tag i => exact ⟨_, rfl, request_acts (ownStopGenerator_deeds i) dt _ tag s⟩
  | pulseEnd _ => exact ⟨_, rfl, frameRow_acts _ s⟩
  | setPort dt tag q => exact ⟨_, rfl, request_acts (ownSetPort_deeds q) dt _ tag s⟩
  | getPort dt tag i => exact ⟨_, rfl, request_acts (ownGetPort_deeds i) dt _ tag s⟩
  | release p => exact ⟨_, rfl, ownRow_acts (.release p) s⟩
  | skip p => exact ⟨_, rfl, ownRow_acts (.skip p) s⟩
  | partialEnd p => exact ⟨_, rfl, ownRow_acts (.partialEnd p) s⟩
  | packetComplete p => exact ⟨_, rfl, ownRow_acts (.complete p) s⟩
  | waitAssert dt p => exact ⟨_, rfl, (elapse_acts dt s).trans (Deed.wait p true).once.acts⟩
  | waitRelease dt p =>
    exact ⟨_, rfl, level_acts (Deed.wait p false).once.acts
      ((elapse_acts dt s).trans (releaseWait_deeds p _).acts)⟩
  | abortAssert dt p =>
    exact ⟨_, rfl, level_acts (Deed.abort p true).once.acts
      ((elapse_acts dt s).trans (raiseAbort_deeds p _).acts)⟩
  | abortRelease dt p =>
    exact ⟨_, rfl, level_acts (Deed.abort p false).once.acts
      ((elapse_acts dt s).trans (releaseAbort_deeds p _).acts)⟩
  | echoInterval _ => exact ⟨_, rfl, frameRow_acts _ s⟩
  | echoReply dt p span _ _ _ =>
    exact ⟨_, rfl, outside_acts (fun u => (takeSummed_deeds p span _ u).acts) dt s⟩
  | echoMissed _ => exact ⟨_, rfl, frameRow_acts _ s⟩
  | presented dt p span _ => exact ⟨_, rfl, outside_acts (fun u => (takeSummed_deeds p span _ u).acts) dt s⟩
  | input dt p span _ => exact ⟨_, rfl, outside_acts (fun u => (takeSummed_deeds p span _ u).acts) dt s⟩
  | discardedKindWord dt p word =>
    exact ⟨_, rfl, outside_acts (fun u => (takeWord_deeds p _ word u).acts) dt s⟩
  | setTriggers dt tag q => exact ⟨_, rfl, request_acts (ownSetTriggers_deeds q) dt _ tag s⟩
  | setResume dt tag q => exact ⟨_, rfl, request_acts (ownSetResume_deeds q) dt _ tag s⟩
  | stampNow dt tag => exact ⟨_, rfl, request_acts ownStampNow_deeds dt _ tag s⟩
  | readStamps dt tag count => exact ⟨_, rfl, request_acts (ownReadStamps_deeds count) dt _ tag s⟩
  | eventPost dt tag q => exact ⟨_, rfl, request_acts (ownEventPost_deeds q) dt _ tag s⟩
  | destinationRelease tag p => exact ⟨_, rfl, ownRow_acts (.destinationRelease tag p) s⟩
  | missed tag p => exact ⟨_, rfl, ownRow_acts (.missed tag p) s⟩
  | eventCancel dt tag eventTag => exact ⟨_, rfl, request_acts (ownEventCancel_deeds eventTag) dt _ tag s⟩
  | readOutcomes dt tag count => exact ⟨_, rfl, request_acts (ownReadOutcomes_deeds count) dt _ tag s⟩
  | getStatus dt tag => exact ⟨_, rfl, request_acts (fun _ => .refl) dt _ tag s⟩
  | unknownKind dt kind tag payload =>
    exact ⟨_, rfl, outside_acts
      (fun u => (closeRecord_acts u).trans (takeRecord_acts kind tag payload _)) dt s⟩
  | candidateFails dt _ _ => exact ⟨_, rfl, byteFromLine_acts dt _ s⟩
  | gap => exact ⟨_, rfl, ownRow_acts .gap s⟩
  | recordSent dt => exact ⟨_, rfl, recordSentRow_acts dt s⟩
  | byteReceived dt _ _ => exact ⟨_, rfl, byteFromLine_acts dt _ s⟩
  | reportBadSum dt p span _ _ =>
    exact ⟨_, rfl, outside_acts (fun u => (takeWords_deeds p span _ u).acts) dt s⟩
  | payloadBeatEnd p => exact ⟨_, rfl, ownRow_acts (.beatEnd p) s⟩

/-- What a command does: acts, or power-on, or acts and then RESET. -/
theorem exec_cases (c : Instr) (s : State) :
    ∃ t, exec c s = .next t ∧
      (Acts s t ∨ (∃ rate, t = s.powerUp rate) ∨ ∃ u, Acts s u ∧ t = u.assertReset) := by
  by_cases hpower : ∃ a b, c = .powerOn a b
  · obtain ⟨a, b, rfl⟩ := hpower
    exact ⟨_, rfl, .inr (.inl ⟨_, rfl⟩)⟩
  by_cases hreset : ∃ dt, c = .reset dt
  · obtain ⟨dt, rfl⟩ := hreset
    refine ⟨_, rfl, ?_⟩
    unfold outside
    split
    · exact .inl .refl
    · exact .inr (.inr ⟨_, State.elapse_acts dt s, rfl⟩)
  obtain ⟨t, ht, hacts⟩ :=
    exec_acts c s (fun a b h => hpower ⟨a, b, h⟩) (fun dt h => hreset ⟨dt, h⟩)
  exact ⟨t, ht, .inl hacts⟩

/-- An invariant of every step: each act keeps it, so do power-on and RESET, and it does not speak of the
waiting commands. -/
theorem step_keeps {P : State → Prop} (hacts : ∀ s t, Act s t → P s → P t)
    (hpower : ∀ s rate, P (State.powerUp rate s)) (hreset : ∀ s, P s → P s.assertReset)
    (hpending : ∀ s l, P s → P { s with pending := l }) {s t : State} (h : step s = .next t)
    (hs : P s) : P t := by
  unfold step at h
  split at h
  · cases h
    exact (State.elapse_acts _ s).keeps hacts hs
  · next c rest _ =>
    obtain ⟨u, hu, hcase⟩ := exec_cases c { s with pending := rest }
    rw [hu] at h
    cases h
    have hs' := hpending s rest hs
    obtain hc | ⟨rate, rfl⟩ | ⟨v, hv, rfl⟩ := hcase
    · exact hc.keeps hacts hs'
    · exact hpower _ rate
    · exact hreset _ (hv.keeps hacts hs')

end Sys2Proof.Machine

/-! ### What the controller's steps write, and the frame start in its parts -/

namespace Sys2Proof.Machine

namespace State

variable (s : State)

@[simp] theorem changeHub_ctrl (new : HubState) (reason : HaltReason) (f : Nat) (cause : StateCause) :
    (s.changeHub new reason f cause).ctrl = { s.ctrl with st := new, reason := reason, f := f } := by
  simp [changeHub]

@[simp] theorem enterPaused_ctrl (cause : StateCause) :
    (s.enterPaused cause).ctrl = { s.ctrl with st := .paused, f := 0 } := by
  simp [enterPaused]

@[simp] theorem enterHalted_ctrl (reason : HaltReason) (cause : StateCause) :
    (s.enterHalted reason cause).ctrl = { s.ctrl with st := .halted, reason := reason, f := 0 } := by
  simp [enterHalted]

/-- Motion with ramp_in 0 is LIVE at once, with f 256 (R25, R27, R37). -/
theorem enterMotion_ctrl (cause : StateCause) :
    (s.enterMotion cause).ctrl =
      if s.ctrl.rampIn = 0 then { s.ctrl with st := .live, f := 256 }
      else { s.ctrl with st := .rampIn } := by
  unfold enterMotion
  split <;> simp

@[simp] theorem enterSetup_ctrl :
    s.enterSetup.ctrl = { s.ctrl with st := .setup, reason := .none, f := 0 } := by
  simp [enterSetup]

@[simp] theorem enterSetup_clock : s.enterSetup.clock = s.clock.enterSetup := by
  simp [enterSetup]

@[simp] theorem enterArmed_ctrl :
    s.enterArmed.ctrl = { s.ctrl with st := .armed, reason := .none, f := 0 } := by
  simp [enterArmed]

@[simp] theorem enterArmed_clock : s.enterArmed.clock = s.clock.arm := by
  simp [enterArmed]

@[simp] theorem clockCapture_clock : s.clockCapture.clock = s.clock.capture := by
  simp [clockCapture]

@[simp] theorem admitEntry_frame (q : PostRequest) (f : Frame) (used : Nat) :
    (s.admitEntry q f used).clock = s.clock ∧ (s.admitEntry q f used).ctrl = s.ctrl ∧
    (s.admitEntry q f used).channels = s.channels ∧ (s.admitEntry q f used).discards = s.discards ∧
    (s.admitEntry q f used).gens = s.gens ∧ (s.admitEntry q f used).cab = s.cab ∧
    (s.admitEntry q f used).inReset = s.inReset ∧ (s.admitEntry q f used).choices = s.choices ∧
    (s.admitEntry q f used).pending = s.pending ∧ (s.admitEntry q f used).ownTime = s.ownTime := by
  unfold admitEntry
  dsimp only
  split <;> simp

@[simp] theorem assertReset_frame :
    s.assertReset.clock = s.clock ∧ s.assertReset.ctrl = s.ctrl ∧
    s.assertReset.channels = s.channels ∧ s.assertReset.discards = s.discards ∧
    s.assertReset.routes = s.routes ∧ s.assertReset.gens = s.gens ∧
    s.assertReset.queue = s.queue ∧ s.assertReset.cab = s.cab ∧
    s.assertReset.choices = s.choices ∧ s.assertReset.pending = s.pending ∧
    s.assertReset.ownTime = s.ownTime ∧ s.assertReset.link.replies = s.link.replies := by
  simp [assertReset, withLink]

/-- The frame start in progress brings the expiry of HOLDOVER (R15). -/
def expires (s : State) : Bool := s.clock.st = .holdover && s.clock.frameStart.st = .acquire

/-- The parts of a frame start after the clock's own: what each of them keeps, the frame start keeps.
`expired` says whether it brings the expiry of HOLDOVER. -/
structure FramePartsKeep (expired : Bool) (P : State → Prop) : Prop where
  hand : ∀ s, P s → P s.handFrameStart
  controller : ∀ s, P s → P (s.controllerFrameStart expired)
  channels : ∀ s, P s → P s.ageChannels
  gens : ∀ r s, P s → P (s.frameStartGenerators r)
  echo : ∀ p s, P s → P (s.echoFrameStart p)
  delivery : ∀ r s, P s → P (s.deliveryFrameStart r)
  finish : ∀ s, P s → P s.finishLines
  choice : ∀ s, P s → P s.nextChoice
  kick : ∀ s, P s → P s.kick

theorem FramePartsKeep.sources {expired : Bool} {P : State → Prop} (h : FramePartsKeep expired P)
    (r : Bool) {s : State} (hs : P s) : P (s.sourcesFrameStart r expired) := by
  refine h.gens r _ (h.channels _ ?_)
  unfold recordAndStep
  split
  · exact h.controller _ (h.hand _ hs)
  · exact h.hand _ (h.controller _ hs)

theorem FramePartsKeep.echoes {expired : Bool} {P : State → Prop} (h : FramePartsKeep expired P)
    {s : State} (hs : P s) : P s.echoesFrameStart := by
  unfold echoesFrameStart
  generalize s.portOrder = ps
  induction ps generalizing s with
  | nil => exact hs
  | cons p ps ih => exact ih (h.echo p s hs)

theorem frameStart_keeps {P : State → Prop} {s : State} (h : FramePartsKeep s.expires P)
    (hs : P s.clockFrameStart) : P s.frameStart := by
  unfold State.frameStart
  dsimp only
  refine h.kick _ (h.choice _ (h.finish _ ?_))
  split
  · exact h.echoes (h.sources _ (h.delivery _ _ hs))
  · exact h.delivery _ _ (h.echoes (h.sources _ hs))

end State

/-! ### f and the halt reason (R29, R34) -/

namespace Controller

/-- f within its bounds for the hub state, and the halt reason exactly in HALTED. -/
abbrev fits (c : Controller) : Prop := c.rampFits ∧ c.reasonFits

theorem reason_of_fits {c : Controller} (h : c.fits) (hst : c.st ≠ .halted) : c.reason = .none :=
  h.2.mpr hst

/-- f never lies above 256. -/
theorem f_le_of_fits {c : Controller} (h : c.fits) : c.f ≤ 256 := by
  have hf := h.1
  unfold rampFits at hf
  split at hf <;> omega

theorem fits_of_ramping {c : Controller} (hst : c.st = .rampIn ∨ c.st = .rampOut)
    (hreason : c.reason = .none) (hf : c.f ≤ 256) : c.fits := by
  obtain hst | hst := hst <;> simp [fits, rampFits, reasonFits, hst, hreason, hf]

end Controller

namespace State

/-- f one frame start later in RAMP_IN, and in RAMP_OUT (R30). -/
def risen (s : State) : Nat :=
  if s.ctrl.rampIn = 0 then 256 else min 256 (s.ctrl.f + ceilDiv 256 s.ctrl.rampIn)

def fallen (s : State) : Nat :=
  if s.ctrl.rampOut = 0 then 0 else s.ctrl.f - ceilDiv 256 s.ctrl.rampOut

theorem rampStep_of_rampIn {s : State} (hst : s.ctrl.st = .rampIn) :
    s.rampStep =
      if s.risen = 256 then s.changeHub .live s.ctrl.reason 256 .rampDone
      else s.withCtrl { s.ctrl with f := s.risen } := by
  simp only [rampStep, hst]
  rfl

theorem rampStep_of_rampOut {s : State} (hst : s.ctrl.st = .rampOut) :
    s.rampStep =
      if s.fallen = 0 then s.enterPaused .rampDone else s.withCtrl { s.ctrl with f := s.fallen } := by
  simp only [rampStep, hst]
  rfl

theorem rampStep_of_steady {s : State} (hin : s.ctrl.st ≠ .rampIn) (hout : s.ctrl.st ≠ .rampOut) :
    s.rampStep = s := by
  unfold rampStep
  split
  · contradiction
  · contradiction
  · rfl

theorem risen_le (s : State) : s.risen ≤ 256 := by
  unfold risen
  split <;> omega

theorem fallen_le (s : State) : s.fallen ≤ s.ctrl.f := by
  unfold fallen
  split <;> omega

theorem fits_rampStep {s : State} (h : s.ctrl.fits) : s.rampStep.ctrl.fits := by
  by_cases hin : s.ctrl.st = .rampIn
  · have hreason := Controller.reason_of_fits h (by simp [hin])
    rw [rampStep_of_rampIn hin]
    split
    · simp [Controller.fits, Controller.rampFits, Controller.reasonFits, hreason]
    · exact Controller.fits_of_ramping (.inl hin) hreason s.risen_le
  by_cases hout : s.ctrl.st = .rampOut
  · have hreason := Controller.reason_of_fits h (by simp [hout])
    rw [rampStep_of_rampOut hout]
    split
    · simp [Controller.fits, Controller.rampFits, Controller.reasonFits, hreason]
    · exact Controller.fits_of_ramping (.inr hout) hreason
        (s.fallen_le.trans (Controller.f_le_of_fits h))
  · rwa [rampStep_of_steady hin hout]

/-- HALTED entry with a reason fits, whatever the state left. -/
theorem fits_enterHalted {reason : HaltReason} (hreason : reason ≠ .none) (cause : StateCause) (s : State) :
    (s.enterHalted reason cause).ctrl.fits := by
  simp [Controller.fits, Controller.rampFits, Controller.reasonFits, hreason]

/-- The expiry of HOLDOVER halts the hub, or leaves it as it is (R35). -/
theorem clockLost_eq (s : State) : s.clockLost = s.enterHalted .clockLost .clockLost ∨ s.clockLost = s := by
  unfold clockLost
  cases s.ctrl.st
  case rampIn | live | rampOut | paused => exact .inl rfl
  case setup | armed | halted => exact .inr rfl

/-- The loss of a port halts the hub, or leaves it as it is (R36). -/
theorem portLost_eq (q : Port) (s : State) :
    s.portLost q = s.enterHalted (.portLost q) (.portLost q) ∨ s.portLost q = s := by
  unfold portLost
  split
  · cases s.ctrl.st
    case rampIn | live | rampOut => exact .inl rfl
    case setup | armed | paused | halted => exact .inr rfl
  · exact .inr rfl

theorem fits_clockLost {s : State} (h : s.ctrl.fits) : s.clockLost.ctrl.fits := by
  obtain hstep | hstep := s.clockLost_eq
  · rw [hstep]
    exact fits_enterHalted (by simp) _ s
  · rwa [hstep]

theorem fits_controllerFrameStart (expired : Bool) {s : State} (h : s.ctrl.fits) :
    (s.controllerFrameStart expired).ctrl.fits := by
  unfold controllerFrameStart
  split
  · split
    · exact fits_rampStep (fits_clockLost h)
    · exact fits_clockLost (fits_rampStep h)
  · exact fits_rampStep h

theorem fits_portLost (p : Port) {s : State} (h : s.ctrl.fits) : (s.portLost p).ctrl.fits := by
  obtain hstep | hstep := portLost_eq p s
  · rw [hstep]
    exact fits_enterHalted (by simp) _ s
  · rwa [hstep]

theorem fits_echoFrameStart (p : Port) {s : State} (h : s.ctrl.fits) :
    (s.echoFrameStart p).ctrl.fits := by
  unfold echoFrameStart
  dsimp only
  split
  · exact fits_portLost p (by simpa using h)
  · exact h

theorem fits_frameStart {s : State} (h : s.ctrl.fits) : s.frameStart.ctrl.fits := by
  refine frameStart_keeps (P := fun s => s.ctrl.fits) ?_ (by simpa using h)
  exact
    { hand := fun s h => by simpa using h
      controller := fun s h => fits_controllerFrameStart _ h
      channels := fun s h => by simpa using h
      gens := fun r s h => by simpa using h
      echo := fun p s h => fits_echoFrameStart p h
      delivery := fun r s h => by simpa using h
      finish := fun s h => by simpa using h
      choice := fun s h => by simpa using h
      kick := fun s h => by simpa using h }

/-- GO, RESUME and a resume condition keep f, or bring it to 256 with LIVE. -/
theorem fits_enterMotion (cause : StateCause) {s : State} (h : s.ctrl.fits) (hst : s.ctrl.st ≠ .halted) :
    (s.enterMotion cause).ctrl.fits := by
  have hreason := Controller.reason_of_fits h hst
  have hle := Controller.f_le_of_fits h
  rw [enterMotion_ctrl]
  split <;> simp [Controller.fits, Controller.rampFits, Controller.reasonFits, hreason, hle]

end State

theorem Deed.keeps_fits {s t : State} (hd : Deed s t) (h : s.ctrl.fits) : t.ctrl.fits := by
  cases hd
  case frameStart => exact State.fits_frameStart h
  case ramps q => exact h
  case enterSetup =>
    simp [Controller.fits, Controller.rampFits, Controller.reasonFits]
  case enterArmed =>
    simp [Controller.fits, Controller.rampFits, Controller.reasonFits]
  case go hst hready => exact State.fits_enterMotion _ h (by simp [hst])
  case resume cause hst hready => exact State.fits_enterMotion _ h (by rintro hh; simp [hh] at hst)
  case rampOut hst =>
    have hreason := Controller.reason_of_fits h (by rintro hh; simp [hh] at hst)
    simp [Controller.fits, Controller.rampFits, Controller.reasonFits, hreason,
      Controller.f_le_of_fits h]
  case pause hst =>
    have hreason := Controller.reason_of_fits h (by rintro hh; simp [hh] at hst)
    simp [Controller.fits, Controller.rampFits, Controller.reasonFits, hreason]
  case halt hst => exact State.fits_enterHalted (by simp) _ s
  case rxError => exact h
  case writeRoute => exact h
  case echoReply p a n d u => 
    unfold State.takeEchoReply
    dsimp only
    repeat' split
    all_goals simpa using h
  all_goals simpa [State.endBeat, State.setWait, State.setAbort] using h

theorem Act.keeps_fits {s t : State} (ha : Act s t) (h : s.ctrl.fits) : t.ctrl.fits := by
  cases ha with
  | deed hd => exact hd.keeps_fits h
  | reply r => simpa using h
  | sent => simpa using h
  | framer fr => simpa using h

end Sys2Proof.Machine

section
open Sys2Proof Sys2Proof.Machine

/-- Settles O53: no deed but the controller's own entries writes f, the hub state or the reason. -/
theorem stepKeepsRampAndReason : Obligations.StepKeepsRampAndReason := by
  unfold Obligations.StepKeepsRampAndReason
  intro s t hramp hreason hstep
  refine step_keeps (P := fun s => s.ctrl.fits) (fun _ _ => Act.keeps_fits) ?_ ?_ ?_ hstep
    ⟨hramp, hreason⟩
  · intro s rate
    simp [Controller.fits, State.powerUp, State.reset, Reset.controller, Controller.rampFits,
      Controller.reasonFits]
  · intro s h
    simpa using h
  · intro s l h
    exact h

end

/-! ### The ring and the settings (R3, R5) -/

namespace Sys2Proof.Machine

namespace Clock

/-- The ring with the current frame newest, and the settings in their ranges. -/
abbrev inOrder (c : Clock) : Prop := c.ringFits ∧ c.settingsFit

theorem ringFits_nextRing (c : Clock) :
    (c.nextRing.head?).map (·.frame) = some c.nextFrame ∧
      (c.ring.length ≤ Config.ringSize → c.nextRing.length ≤ Config.ringSize) := by
  unfold nextRing
  split
  · next h => simp [nextFrame, h, Config.ringSize]
  · simp [Config.ringSize]

theorem inOrder_frameStart {c : Clock} (h : c.inOrder) : c.frameStart.inOrder := by
  obtain ⟨⟨-, hlen⟩, hset⟩ := h
  have hring : c.frameStart.ring = c.nextRing := by simp [frameStart, beginFrame]
  obtain ⟨hhead, hlen'⟩ := c.ringFits_nextRing
  exact ⟨⟨by rw [hring, frameStart_current, hhead], by rw [hring]; exact hlen' hlen⟩,
    by rw [settingsFit, frameStart_set]; exact hset⟩

@[simp] theorem addGood_frame (c : Clock) :
    c.addGood.ring = c.ring ∧ c.addGood.current = c.current ∧ c.addGood.set = c.set ∧
    c.addGood.cueTime = c.cueTime ∧ c.addGood.captured = c.captured ∧ c.addGood.trim = c.trim ∧
    c.addGood.lastE = c.lastE ∧ c.addGood.frameEnd = c.frameEnd ∧ c.addGood.renumber = c.renumber := by
  unfold addGood
  dsimp only
  split <;> simp

@[simp] theorem judgeCapture_frame (good : Bool) (c : Clock) :
    (c.judgeCapture good).ring = c.ring ∧ (c.judgeCapture good).current = c.current ∧
    (c.judgeCapture good).set = c.set ∧ (c.judgeCapture good).cueTime = c.cueTime ∧
    (c.judgeCapture good).captured = c.captured ∧ (c.judgeCapture good).trim = c.trim ∧
    (c.judgeCapture good).lastE = c.lastE ∧ (c.judgeCapture good).frameEnd = c.frameEnd ∧
    (c.judgeCapture good).renumber = c.renumber := by
  unfold judgeCapture
  split <;> simp [toHoldover]

/-- A capture leaves the frame's number, the ring and the settings alone. -/
@[simp] theorem capture_frame (c : Clock) :
    c.capture.ring = c.ring ∧ c.capture.current = c.current ∧ c.capture.set = c.set ∧
    c.capture.cueTime = c.cueTime ∧ c.capture.captured = true ∧ c.capture.lastE = c.folded ∧
    c.capture.renumber = c.renumber := by
  unfold capture
  split <;> simp [recordCapture, applyTrim]

end Clock

theorem Deed.keeps_inOrder {s t : State} (hd : Deed s t) (h : s.clock.inOrder) : t.clock.inOrder := by
  cases hd
  case advance u => unfold State.advanceTo; split <;> exact h
  case frameStart => simpa using Clock.inOrder_frameStart h
  case capture => simpa [Clock.inOrder, Clock.ringFits, Clock.settingsFit] using h
  case settings m hm => exact ⟨h.1, hm⟩
  case refix => exact h
  case enterSetup => rw [State.enterSetup_clock]; exact h
  case enterArmed => rw [State.enterArmed_clock]; exact h
  case writeRoute => exact h
  case rxError => exact h
  all_goals simpa [State.endBeat, State.setWait, State.setAbort, State.writeRamps, State.enterMotion,
    apply_ite State.clock] using h

theorem Act.keeps_inOrder {s t : State} (ha : Act s t) (h : s.clock.inOrder) : t.clock.inOrder := by
  cases ha with
  | deed hd => exact hd.keeps_inOrder h
  | reply r => simpa using h
  | sent => simpa using h
  | framer fr => simpa using h

end Sys2Proof.Machine

section
open Sys2Proof Sys2Proof.Machine

/-- Settles O55: a frame start alone moves the ring, and SET_CLOCK alone the settings, to a record it has
checked. -/
theorem stepKeepsRingAndSettings : Obligations.StepKeepsRingAndSettings := by
  unfold Obligations.StepKeepsRingAndSettings
  intro s t hring hset hstep
  refine step_keeps (P := fun s => s.clock.inOrder) (fun _ _ => Act.keeps_inOrder) ?_ ?_ ?_ hstep
    ⟨hring, hset⟩
  · intro s rate
    simp only [State.powerUp, State.reset]
    decide
  · intro s h
    simpa using h
  · intro s l h
    exact h

end

/-! ### The clock that the hub follows (R11, R35) -/

namespace Sys2Proof.Machine

/-- The clock states that a hub state allows (R11, R35). -/
def HubState.allows (st : HubState) (c : ClockState) : Prop :=
  match st with
  | .setup => c = .free
  | .armed | .halted => c ≠ .free
  | .rampIn | .live | .rampOut | .paused => c = .locked ∨ c = .holdover

theorem State.clockFits_iff (s : State) : s.clockFits ↔ s.ctrl.st.allows s.clock.st := by
  unfold State.clockFits HubState.allows
  cases s.ctrl.st <;> exact Iff.rfl

namespace HubState

/-- Outside SETUP the clock is not FREE. -/
theorem allows_halted {st : HubState} {c : ClockState} (h : st.allows c) (hst : st ≠ .setup) :
    HubState.halted.allows c := by
  cases st <;> simp_all [allows]
  all_goals rcases h with rfl | rfl <;> simp

/-- The states of motion and PAUSED allow the same clock states. -/
theorem allows_of_motion {st new : HubState} {c : ClockState} (h : st.allows c)
    (hst : st = .rampIn ∨ st = .live ∨ st = .rampOut ∨ st = .paused)
    (hnew : new = .rampIn ∨ new = .live ∨ new = .rampOut ∨ new = .paused) : new.allows c := by
  have hc : c = .locked ∨ c = .holdover := by
    obtain rfl | rfl | rfl | rfl := hst <;> exact h
  obtain rfl | rfl | rfl | rfl := hnew <;> exact hc

/-- LOCKED gives way to HOLDOVER wherever it is allowed. -/
theorem allows_holdover {st : HubState} (h : st.allows .locked) : st.allows .holdover := by
  cases st <;> simp_all [allows]

/-- A clock that locks, outside FREE, is allowed wherever the state it left was. -/
theorem allows_locked {st : HubState} {c : ClockState} (h : st.allows c) (hc : c ≠ .free) :
    st.allows .locked := by
  cases st <;> simp_all [allows]

end HubState

namespace Clock

/-- The count of the frame that ends moves the clock from LOCKED to HOLDOVER, or from HOLDOVER to ACQUIRE, or
leaves its state (R14, R15). -/
theorem frameStart_st (c : Clock) :
    c.frameStart.st = c.st ∨ (c.st = .locked ∧ c.frameStart.st = .holdover) ∨
      (c.st = .holdover ∧ c.frameStart.st = .acquire) := by
  have hb : c.beginFrame.st = c.st := rfl
  unfold frameStart countFrame
  rw [hb]
  cases hst : c.st <;> dsimp only
  case free => simp [hb, hst]
  case acquire => split <;> simp [hb, hst]
  case locked =>
    split
    · simp [hb, hst]
    · split <;> simp [toHoldover]
  case holdover =>
    split
    · simp
    · split <;> simp

theorem addGood_st (c : Clock) : c.addGood.st = c.st ∨ c.addGood.st = .locked := by
  unfold addGood
  dsimp only
  split
  · exact .inr rfl
  · exact .inl rfl

/-- A capture leaves the clock state, or locks, or moves LOCKED to HOLDOVER (R12, R14, R15); FREE stays. -/
theorem capture_st (c : Clock) :
    c.capture.st = c.st ∨ (c.st ≠ .free ∧ c.capture.st = .locked) ∨
      (c.st = .locked ∧ c.capture.st = .holdover) := by
  unfold capture
  split
  · exact .inl rfl
  have hst : (c.recordCapture.applyTrim c.folded).st = c.st := rfl
  have hgood := addGood_st (c.recordCapture.applyTrim c.folded)
  unfold judgeCapture
  rw [hst] at hgood ⊢
  cases hc : c.st <;> cases c.isGood <;> simp_all [toHoldover]

end Clock

namespace State

theorem allows_rampStep {s : State} {c : ClockState} (h : s.ctrl.st.allows c) :
    s.rampStep.ctrl.st.allows c := by
  by_cases hin : s.ctrl.st = .rampIn
  · rw [rampStep_of_rampIn hin]
    split
    · simpa using HubState.allows_of_motion h (.inl hin) (.inr (.inl rfl))
    · exact h
  by_cases hout : s.ctrl.st = .rampOut
  · rw [rampStep_of_rampOut hout]
    split
    · simpa using HubState.allows_of_motion h (.inr (.inr (.inl hout))) (.inr (.inr (.inr rfl)))
    · exact h
  · rwa [rampStep_of_steady hin hout]

theorem allows_portLost (p : Port) {s : State} {c : ClockState} (h : s.ctrl.st.allows c) :
    (s.portLost p).ctrl.st.allows c := by
  unfold portLost
  split
  · split
    · next hst => simpa using HubState.allows_halted h (by simp [hst])
    · next hst => simpa using HubState.allows_halted h (by simp [hst])
    · next hst => simpa using HubState.allows_halted h (by simp [hst])
    · exact h
  · exact h

theorem allows_echoFrameStart (p : Port) {s : State} {c : ClockState} (h : s.ctrl.st.allows c) :
    (s.echoFrameStart p).ctrl.st.allows c := by
  unfold echoFrameStart
  dsimp only
  split
  · exact allows_portLost p (by simpa using h)
  · exact h

/-- At an expiry of HOLDOVER the hub is ARMED or HALTED when the controller is done (R35). -/
theorem controllerFrameStart_expired {s : State} (hst : s.ctrl.st ≠ .setup) :
    (s.controllerFrameStart true).ctrl.st = .armed ∨ (s.controllerFrameStart true).ctrl.st = .halted := by
  have hlost : ∀ s : State, s.ctrl.st ≠ .setup →
      s.clockLost.ctrl.st = .armed ∨ s.clockLost.ctrl.st = .halted := by
    intro s hst
    unfold clockLost
    split <;> simp_all
  have hramp : s.rampStep.ctrl.st ≠ .setup := by
    by_cases hin : s.ctrl.st = .rampIn
    · rw [rampStep_of_rampIn hin]; split <;> simp [hin]
    by_cases hout : s.ctrl.st = .rampOut
    · rw [rampStep_of_rampOut hout]; split <;> simp [hout]
    · rwa [rampStep_of_steady hin hout]
  simp only [controllerFrameStart, if_true]
  split
  · have h := hlost s hst
    rwa [rampStep_of_steady (by rintro h'; simp [h'] at h) (by rintro h'; simp [h'] at h)]
  · exact hlost _ hramp

/-- A hub that is ARMED or HALTED takes no loss of a port. -/
theorem echoFrameStart_ctrl_of_steady (p : Port) {s : State}
    (hst : s.ctrl.st = .armed ∨ s.ctrl.st = .halted) : (s.echoFrameStart p).ctrl = s.ctrl := by
  unfold echoFrameStart
  dsimp only
  split
  · unfold portLost
    split
    · split <;> simp_all
    · simp
  · rfl

theorem echoesFrameStart_ctrl_of_steady {s : State} (hst : s.ctrl.st = .armed ∨ s.ctrl.st = .halted) :
    s.echoesFrameStart.ctrl = s.ctrl := by
  unfold echoesFrameStart
  generalize s.portOrder = ps
  induction ps generalizing s with
  | nil => rfl
  | cons p ps ih =>
    have hctrl := echoFrameStart_ctrl_of_steady p hst
    exact (ih (by rwa [hctrl])).trans hctrl

theorem recordAndStep_ctrl (expired : Bool) (s : State) :
    (s.recordAndStep expired).ctrl = (s.controllerFrameStart expired).ctrl ∨
      (s.recordAndStep expired).ctrl = (s.handFrameStart.controllerFrameStart expired).ctrl := by
  unfold recordAndStep
  split
  · exact .inr rfl
  · exact .inl (by simp)

theorem sourcesFrameStart_expired (renumbering : Bool) {s : State} (hst : s.ctrl.st ≠ .setup) :
    (s.sourcesFrameStart renumbering true).ctrl.st = .armed ∨
      (s.sourcesFrameStart renumbering true).ctrl.st = .halted := by
  have hctrl : (s.sourcesFrameStart renumbering true).ctrl = (s.recordAndStep true).ctrl := by
    simp [sourcesFrameStart]
  rw [hctrl]
  obtain h | h := s.recordAndStep_ctrl true <;> rw [h]
  · exact controllerFrameStart_expired hst
  · exact controllerFrameStart_expired (by simpa using hst)

/-- After an expiry of HOLDOVER the hub is ARMED or HALTED (R35). -/
theorem frameStart_expired {s : State} (hst : s.ctrl.st ≠ .setup)
    (hold : s.clock.st = .holdover) (hnew : s.clock.frameStart.st = .acquire) :
    s.frameStart.ctrl.st = .armed ∨ s.frameStart.ctrl.st = .halted := by
  unfold frameStart
  simp only [hold, hnew, decide_true, Bool.and_self]
  split
  · have h := sourcesFrameStart_expired s.clock.renumber
      (s := s.clockFrameStart.deliveryFrameStart s.clock.renumber) (by simpa using hst)
    simpa [echoesFrameStart_ctrl_of_steady h] using h
  · have h := sourcesFrameStart_expired s.clock.renumber (s := s.clockFrameStart) (by simpa using hst)
    simpa [echoesFrameStart_ctrl_of_steady h] using h

/-- Without an expiry of HOLDOVER the parts of a frame start keep the hub within what a clock state allows. -/
theorem allows_frameStart {s : State} {c : ClockState} (h : s.ctrl.st.allows c)
    (hexp : s.expires = false) : s.frameStart.ctrl.st.allows c := by
  refine frameStart_keeps (P := fun s => s.ctrl.st.allows c) ?_ (by simpa using h)
  rw [hexp]
  exact
    { hand := fun s h => by simpa using h
      controller := fun s h => allows_rampStep h
      channels := fun s h => by simpa using h
      gens := fun r s h => by simpa using h
      echo := fun p s h => allows_echoFrameStart p h
      delivery := fun r s h => by simpa using h
      finish := fun s h => by simpa using h
      choice := fun s h => by simpa using h
      kick := fun s h => by simpa using h }

theorem clockFits_frameStart {s : State} (h : s.clockFits) : s.frameStart.clockFits := by
  rw [clockFits_iff] at h ⊢
  rw [frameStart_clock]
  obtain hst | ⟨hlocked, hst⟩ | ⟨hold, hst⟩ := s.clock.frameStart_st
  · have hexp : s.expires = false := by cases hc : s.clock.st <;> simp [expires, hst, hc]
    rw [hst]
    exact allows_frameStart h hexp
  · rw [hst]
    exact allows_frameStart (HubState.allows_holdover (hlocked ▸ h)) (by simp [expires, hlocked])
  · have hsetup : s.ctrl.st ≠ .setup := by
      rintro hs
      rw [hs, hold] at h
      cases h
    rw [hst]
    obtain h' | h' := frameStart_expired hsetup hold hst <;> rw [h'] <;> simp [HubState.allows]

theorem clockFits_enterMotion (cause : StateCause) {s : State}
    (hc : s.clock.st = .locked ∨ s.clock.st = .holdover) : (s.enterMotion cause).clockFits := by
  have hclock : (s.enterMotion cause).clock = s.clock := by simp
  rw [clockFits_iff, hclock, enterMotion_ctrl]
  split <;> exact hc

end State

theorem Deed.keeps_clockFits {s t : State} (hd : Deed s t) (h : s.clockFits) : t.clockFits := by
  have hs := (State.clockFits_iff s).mp h
  cases hd
  case advance u => unfold State.advanceTo; split <;> exact h
  case frameStart => exact State.clockFits_frameStart h
  case capture =>
    have hctrl : s.clockCapture.ctrl = s.ctrl := by simp
    rw [State.clockFits_iff, State.clockCapture_clock, hctrl]
    obtain hst | ⟨hfree, hst⟩ | ⟨hlocked, hst⟩ := s.clock.capture_st <;> rw [hst]
    · exact hs
    · exact HubState.allows_locked hs hfree
    · exact HubState.allows_holdover (hlocked ▸ hs)
  case settings => exact h
  case refix => exact h
  case ramps => exact h
  case enterSetup =>
    simp [State.clockFits_iff, HubState.allows, Clock.enterSetup]
  case enterArmed =>
    simp [State.clockFits_iff, HubState.allows, Clock.arm]
  case go hst hready =>
    simp [State.readyToGo] at hready
    exact State.clockFits_enterMotion _ (.inl hready.1)
  case resume hst hready =>
    simp [State.readyToResume] at hready
    exact State.clockFits_enterMotion _ hready.1
  case rampOut hst =>
    have hnew := HubState.allows_of_motion (new := .rampOut) hs (by tauto) (by tauto)
    simpa [State.clockFits_iff] using hnew
  case pause hst =>
    have hnew := HubState.allows_of_motion (new := .paused) hs (by tauto) (by tauto)
    simpa [State.clockFits_iff] using hnew
  case halt hst => simpa [State.clockFits_iff] using HubState.allows_halted hs hst
  case writeRoute => exact h
  case rxError => exact h
  all_goals simpa [State.clockFits_iff, State.endBeat, State.setWait, State.setAbort] using h

theorem Act.keeps_clockFits {s t : State} (ha : Act s t) (h : s.clockFits) : t.clockFits := by
  cases ha with
  | deed hd => exact hd.keeps_clockFits h
  | reply r => simpa [State.clockFits_iff] using h
  | sent => simpa [State.clockFits_iff] using h
  | framer fr => simpa [State.clockFits_iff] using h

end Sys2Proof.Machine

section
open Sys2Proof Sys2Proof.Machine

/-- Settles O54: the clock loses LOCKED and HOLDOVER only at an expiry, and the controller halts there. -/
theorem stepKeepsTheClockFollowed : Obligations.StepKeepsTheClockFollowed := by
  unfold Obligations.StepKeepsTheClockFollowed
  intro s t hfits hstep
  refine step_keeps (fun _ _ => Act.keeps_clockFits) ?_ ?_ ?_ hstep hfits
  · intro s rate
    exact rfl
  · intro s h
    simpa [State.clockFits_iff] using h
  · intro s l h
    exact h

end

/-! ### The slots that routes claim (R56)

Builds, SETUP entry and ARM write only the last of a route: the port and slot it names move at SET_ROUTE and
CLEAR_ROUTE alone. -/

namespace Sys2Proof.Machine

@[simp] theorem mapTable_getElem {α β : Type} {n : Nat} (f : α → β) (v : Vector α n) (i : Nat)
    (h : i < n) : (mapTable f v)[i] = f v[i] := by
  simp [mapTable]

namespace State

/-- The port and slot that each route names. -/
def claimed (s : State) (i : Fin 64) : Option Port × Nat := ((s.routes[i]).port, (s.routes[i]).slot)

theorem claimed_of_routes_eq {s t : State} (h : t.routes = s.routes) : t.claimed = s.claimed := by
  unfold claimed
  rw [h]

theorem claimed_of_get_eq {s t : State}
    (h : ∀ i : Fin 64, (t.routes[i]).port = (s.routes[i]).port ∧ (t.routes[i]).slot = (s.routes[i]).slot) :
    t.claimed = s.claimed :=
  funext fun i => Prod.ext (h i).1 (h i).2

/-- Two routes clash by what they claim. -/
theorem sameClaim_iff (s : State) (i j : Fin 64) :
    (s.routes[i]).sameClaim s.routes[j] = true ↔
      (s.claimed i).1.isSome = true ∧ s.claimed i = s.claimed j := by
  simp [Route.sameClaim, claimed, and_assoc]

theorem claimsFit_iff (s : State) :
    s.claimsFit ↔ ∀ i j, i ≠ j → (s.claimed i).1.isSome = true → s.claimed i ≠ s.claimed j := by
  simp only [claimsFit, ← Bool.not_eq_true, sameClaim_iff, not_and, ne_eq]

theorem claimsFit_of_claimed_eq {s t : State} (h : t.claimed = s.claimed) (hs : s.claimsFit) :
    t.claimsFit := by
  rw [claimsFit_iff] at hs ⊢
  rwa [h]

variable (s : State)

theorem buildRoutes_get (p : Port) (presentation : Instant) (i : Fin 64) :
    (buildRoutes s p presentation)[i] =
      if (s.routes[i]).feeds p (s.port p).cfg.slots then
        { s.routes[i] with
          last := (s.routes[i]).compute s.channels s.gens s.ctrl.f presentation }
      else s.routes[i] := by
  simp [buildRoutes]

@[simp] theorem claimed_startCue (p : Port) : (s.startCue p).claimed = s.claimed := by
  refine claimed_of_get_eq fun i => ?_
  unfold startCue
  split
  · simp
  · simp only [skipPast_frame, withPort_routes, launch_frame, withRoutes_routes, buildRoutes_get]
    split <;> simp

@[simp] theorem claimed_startClaim (p : Port) (c : Claim) : (s.startClaim p c).claimed = s.claimed := by
  cases c
  case cue => exact s.claimed_startCue p
  all_goals exact claimed_of_routes_eq (by simp [startClaim])

@[simp] theorem claimed_grant (p : Port) : (s.grant p).claimed = s.claimed := by
  unfold grant
  split
  · split <;> simp
  · rfl

@[simp] theorem claimed_grantAll : s.grantAll.claimed = s.claimed := by
  simp [grantAll]

@[simp] theorem claimed_finishLines : s.finishLines.claimed = s.claimed :=
  s.expireAll.claimed_grantAll.trans (claimed_of_routes_eq (by simp))

theorem claimed_kick : s.kick.claimed = s.claimed := claimed_of_routes_eq (by simp)

@[simp] theorem claimed_deliveryFrameStart (r : Bool) : (s.deliveryFrameStart r).claimed = s.claimed := by
  refine (claimed_finishLines _).trans (claimed_of_routes_eq ?_)
  cases r <;> simp

theorem claimed_frameStart : s.frameStart.claimed = s.claimed := by
  refine frameStart_keeps (P := fun t => t.claimed = s.claimed) ?_ (claimed_of_routes_eq (by simp))
  have step {t u : State} (hr : u.routes = t.routes) (ht : t.claimed = s.claimed) :
      u.claimed = s.claimed := (claimed_of_routes_eq hr).trans ht
  exact
    { hand := fun t => step (by simp)
      controller := fun t => step (by simp)
      channels := fun t => step (by simp)
      gens := fun r t => step (by simp)
      echo := fun p t => step (by simp)
      delivery := fun r t ht => by simpa using ht
      finish := fun t ht => by simpa using ht
      choice := fun t => step (by simp)
      kick := fun t => step (by simp) }

theorem enterSetup_routes : s.enterSetup.routes = mapTable (fun r => { r with last := r.rest }) s.routes := by
  simp [enterSetup, clearDynamic]

theorem claimed_enterSetup : s.enterSetup.claimed = s.claimed :=
  claimed_of_get_eq fun i => by simp [enterSetup_routes]

theorem claimed_enterArmed : s.enterArmed.claimed = s.claimed := by
  refine (claimed_finishLines _).trans (claimed_of_get_eq fun i => ?_)
  simp only [notePorts_frame, openPort_frame, withGens_routes, withRoutes_routes, noteClock_frame,
    withClock_routes, changeHub_frame, Fin.getElem_fin, mapTable_getElem]
  split <;> simp

theorem claimed_takeEchoReply (p : Port) (arrival : Instant) (number delay turnaround : Word) :
    (s.takeEchoReply p arrival number delay turnaround).claimed = s.claimed := by
  unfold takeEchoReply
  dsimp only
  split
  · rfl
  · rw [claimed_kick, claimed_finishLines]
    refine claimed_of_routes_eq ?_
    split <;> simp

theorem claimed_admitEntry (q : PostRequest) (f : Frame) (used : Nat) :
    (s.admitEntry q f used).claimed = s.claimed := by
  unfold admitEntry
  dsimp only
  split
  · rfl
  · exact (claimed_finishLines _).trans (claimed_of_routes_eq (by simp))

/-- SET_ROUTE leaves a route that names what no other holds (R59). -/
theorem claimsFit_writeRoute {s : State} {i : Fin 64} {m : Route}
    (hfree : claimHolder s.routes i m = none) (h : s.claimsFit) : (s.writeRoute i m).claimsFit := by
  have hnone : ∀ j : Fin 64, j ≠ i → m.port.isSome = true → (m.port, m.slot) ≠ s.claimed j := by
    simpa [claimHolder, Route.sameClaim, claimed] using hfree
  have hnew (j : Fin 64) :
      (s.writeRoute i m).claimed j = if j = i then (m.port, m.slot) else s.claimed j := by
    unfold claimed writeRoute
    by_cases hj : j = i
    · subst hj
      simp
      split <;> simp
    · have hval : i.val ≠ j.val := fun hv => hj (Fin.ext hv.symm)
      simp [hj, Vector.getElem_set_ne, hval]
  rw [claimsFit_iff] at h ⊢
  intro j k hjk
  rw [hnew, hnew]
  by_cases hj : j = i
  · subst hj
    simpa [Ne.symm hjk] using hnone k (Ne.symm hjk)
  · by_cases hk : k = i
    · subst hk
      simp only [hj, if_false, if_true]
      intro hsome heq
      exact hnone j hj (by rw [heq] at hsome; exact hsome) heq.symm
    · simpa [hj, hk] using h j k hjk

theorem claimsFit_clearRoute {s : State} (i : Fin 64) (h : s.claimsFit) :
    (s.withRoutes (s.routes.set i Reset.route)).claimsFit := by
  have hnew (j : Fin 64) :
      (s.withRoutes (s.routes.set i Reset.route)).claimed j = if j = i then (none, 0) else s.claimed j := by
    unfold claimed
    by_cases hj : j = i
    · subst hj
      simp [Reset.route]
    · have hval : i.val ≠ j.val := fun hv => hj (Fin.ext hv.symm)
      simp [hj, Vector.getElem_set_ne, hval]
  rw [claimsFit_iff] at h ⊢
  intro j k hjk
  rw [hnew, hnew]
  by_cases hj : j = i
  · simp [hj]
  · by_cases hk : k = i
    · simp only [hj, hk, if_false, if_true]
      intro hsome heq
      simp [heq] at hsome
    · simpa [hj, hk] using h j k hjk

end State

theorem Deed.keeps_claimsFit {s t : State} (hd : Deed s t) (h : s.claimsFit) : t.claimsFit := by
  cases hd
  case writeRoute i m hfree => exact State.claimsFit_writeRoute hfree h
  case clearRoute i => exact State.claimsFit_clearRoute i h
  all_goals refine State.claimsFit_of_claimed_eq ?_ h
  case frameStart => exact s.claimed_frameStart
  case enterSetup => exact s.claimed_enterSetup
  case enterArmed => exact s.claimed_enterArmed
  case finishLines => exact s.claimed_finishLines
  case enqueue => exact s.claimed_admitEntry _ _ _
  case echoReply => exact s.claimed_takeEchoReply _ _ _ _ _
  case rxError => rfl
  all_goals
    exact State.claimed_of_routes_eq
      (by simp [State.endBeat, State.setWait, State.setAbort, State.writeRamps])

theorem Act.keeps_claimsFit {s t : State} (ha : Act s t) (h : s.claimsFit) : t.claimsFit := by
  cases ha with
  | deed hd => exact hd.keeps_claimsFit h
  | reply r => exact State.claimsFit_of_claimed_eq (State.claimed_of_routes_eq (by simp)) h
  | sent => exact State.claimsFit_of_claimed_eq (State.claimed_of_routes_eq (by simp)) h
  | framer fr => exact State.claimsFit_of_claimed_eq (State.claimed_of_routes_eq (by simp)) h

end Sys2Proof.Machine

section
open Sys2Proof Sys2Proof.Machine

/-- Settles O58: SET_ROUTE checks the pair it writes, CLEAR_ROUTE takes a pair away, and nothing else moves
one. -/
theorem stepKeepsClaimsApart : Obligations.StepKeepsClaimsApart := by
  unfold Obligations.StepKeepsClaimsApart
  intro s t hfit hstep
  refine step_keeps (fun _ _ => Act.keeps_claimsFit) ?_ ?_ ?_ hstep hfit
  · intro s rate
    rw [State.claimsFit_iff]
    intro i j _ hsome
    simp [State.claimed, State.powerUp, State.reset, Reset.route] at hsome
  · intro s h
    exact State.claimsFit_of_claimed_eq (State.claimed_of_routes_eq (by simp)) h
  · intro s l h
    exact h

end

/-! ### The event queue: what mapping and settling do to it (R140, R151) -/

namespace Sys2Proof.Machine

namespace Entry

/-- The entry as settling leaves it: DONE when it was ACTIVE with no PENDING destination (R151). -/
def close (e : Entry) : Entry := if e.finished then { e with st := .done } else e

@[simp] theorem close_frame (e : Entry) :
    e.close.tag = e.tag ∧ e.close.kind = e.kind ∧ e.close.shape = e.shape ∧
    e.close.amplitude = e.amplitude ∧ e.close.duration = e.duration ∧ e.close.frame = e.frame ∧
    e.close.slipLimit = e.slipLimit ∧ e.close.slipUsed = e.slipUsed ∧ e.close.dests = e.dests := by
  unfold close
  split <;> simp

@[simp] theorem mapActive_frame (f : Entry → Destination → Destination) (e : Entry) :
    (e.mapActive f).tag = e.tag ∧ (e.mapActive f).kind = e.kind ∧ (e.mapActive f).shape = e.shape ∧
    (e.mapActive f).amplitude = e.amplitude ∧ (e.mapActive f).duration = e.duration ∧
    (e.mapActive f).frame = e.frame ∧ (e.mapActive f).slipLimit = e.slipLimit ∧
    (e.mapActive f).slipUsed = e.slipUsed ∧ (e.mapActive f).st = e.st := by
  unfold mapActive
  split <;> simp

theorem mapActive_of_active {f : Entry → Destination → Destination} {e : Entry} (h : e.st = .active) :
    e.mapActive f = { e with dests := e.dests.map (f e) } := by
  simp [mapActive, h]

theorem mapActive_of_done {f : Entry → Destination → Destination} {e : Entry} (h : e.st = .done) :
    e.mapActive f = e := by
  simp [mapActive, h]

/-- A DONE entry has no PENDING destination. -/
abbrev closed (e : Entry) : Prop := e.st = .done → e.dests.any Destination.pending = false

theorem finished_iff (e : Entry) :
    e.finished = true ↔ e.st = .active ∧ e.dests.any Destination.pending = false := by
  simp [finished]

theorem closed_of_stateFits {e : Entry} (h : e.stateFits) : e.closed := by
  intro hst
  simpa [stateFits, hst] using h

/-- Settling makes ACTIVE agree with a PENDING destination. -/
theorem stateFits_close {e : Entry} (h : e.closed) : e.close.stateFits := by
  unfold close
  by_cases hf : e.finished = true
  · have := (finished_iff e).mp hf
    simp [hf, stateFits, this.2]
  · rw [if_neg hf]
    cases hst : e.st with
    | active => simpa [stateFits, finished_iff, hst] using hf
    | done => simp [stateFits, hst, h hst]

theorem closed_mapActive (f : Entry → Destination → Destination) {e : Entry} (h : e.closed) :
    (e.mapActive f).closed := by
  intro hst
  have hdone : e.st = .done := by simpa using hst
  rw [mapActive_of_done hdone]
  exact h hdone

/-- What keeps each destination PENDING or final keeps the entry's state right. -/
theorem stateFits_mapActive {f : Entry → Destination → Destination} {e : Entry}
    (hf : ∀ d, (f e d).pending = d.pending) (h : e.stateFits) : (e.mapActive f).stateFits := by
  unfold mapActive
  split
  · have hany : (e.dests.map (f e)).any Destination.pending = e.dests.any Destination.pending := by
      simp [List.any_map, Function.comp_def, hf]
    simpa [stateFits, hany] using h
  · exact h

end Entry

namespace State

variable (s : State)

@[simp] theorem mapDests_queue (f : Entry → Destination → Destination) :
    (s.mapDests f).queue = s.queue.map (Entry.mapActive f) := rfl

@[simp] theorem markDone_queue (tag : Byte) :
    (s.markDone tag).queue =
      s.queue.map (fun e => if e.tag = tag && e.finished then { e with st := .done } else e) := rfl

theorem settleEntry_of_finished {s : State} {e : Entry} (h : e.finished = true) :
    s.settleEntry e =
      (s.markDone e.tag).placeOutcomes
        ⟨e.tag, e.frame, e.dests.map (fun d => (d.port, d.outcome)), (s.markDone e.tag).doneCount,
          s.clock.current⟩ := by
  simp [settleEntry, h]

theorem settleEntry_of_not_finished {s : State} {e : Entry} (h : e.finished = false) :
    s.settleEntry e = s := by
  simp [settleEntry, h]

/-- Settling the entries `es` closes what carries the tag of a finished one. -/
theorem settleAll_queue (es : List Entry) (s : State) :
    (es.foldl settleEntry s).queue =
      s.queue.map (fun x => if es.any (fun e => e.finished && e.tag == x.tag) then x.close else x) := by
  induction es generalizing s with
  | nil => simp
  | cons e es ih =>
    rw [List.foldl_cons, ih]
    by_cases hf : e.finished = true
    · rw [settleEntry_of_finished hf]
      simp only [placeOutcomes_frame, markDone_queue, List.map_map]
      refine List.map_congr_left fun x _ => ?_
      by_cases ht : e.tag = x.tag
      · by_cases hx : x.finished = true
        · have hclosed : x.close = { x with st := .done } := by simp [Entry.close, hx]
          have hagain : ({ x with st := .done } : Entry).close = { x with st := .done } := by
            simp [Entry.close, Entry.finished]
          simp [hf, ht, hx, hclosed, hagain]
        · simp [hf, ht, hx, Entry.close]
      · have ht' : x.tag ≠ e.tag := Ne.symm ht
        simp [ht, ht']
    · rw [settleEntry_of_not_finished (by simpa using hf)]
      simp [hf]

/-- Settling closes every finished entry in its place (R151). -/
@[simp] theorem settle_queue : s.settle.queue = s.queue.map Entry.close := by
  unfold settle
  rw [settleAll_queue]
  refine List.map_congr_left fun x hx => ?_
  by_cases hf : x.finished = true
  · have hany : s.queue.any (fun e => e.finished && e.tag == x.tag) = true :=
      List.any_eq_true.mpr ⟨x, hx, by simp [hf]⟩
    simp [hany]
  · simp [Entry.close, hf]

/-- An entry becomes DONE by its tag when it is finished, with its notice. -/
theorem settleEntry_queue (e : Entry) :
    (s.settleEntry e).queue =
      s.queue.map (fun x => if e.finished && e.tag == x.tag then x.close else x) := by
  simpa using settleAll_queue [e] s

/-! #### Tags and the state of every entry -/

/-- The tags of the entries, in queue order. -/
def tags : List Byte := s.queue.map (·.tag)

/-- Every entry is ACTIVE exactly while a destination is PENDING. -/
abbrev settled : Prop := ∀ e ∈ s.queue, e.stateFits

/-- The entries keep their tags and their order, and stay settled. -/
structure QueueKept (s t : State) : Prop where
  tags : t.tags = s.tags
  settled : s.settled → t.settled

namespace QueueKept

theorem refl (s : State) : QueueKept s s := ⟨rfl, id⟩

theorem trans {s t u : State} (h : QueueKept s t) (h' : QueueKept t u) : QueueKept s u :=
  ⟨h'.tags.trans h.tags, h'.settled ∘ h.settled⟩

theorem of_queue_eq {s t : State} (h : t.queue = s.queue) : QueueKept s t :=
  ⟨by simp [State.tags, h], by simp [State.settled, h]⟩

end QueueKept

theorem queueKept_mapDests_settle (f : Entry → Destination → Destination) :
    QueueKept s (s.mapDests f).settle := by
  refine ⟨by simp [State.tags, Function.comp_def], fun h e he => ?_⟩
  simp only [settle_queue, mapDests_queue, List.map_map, List.mem_map, Function.comp_apply] at he
  obtain ⟨x, hx, rfl⟩ := he
  exact Entry.stateFits_close (Entry.closed_mapActive f (Entry.closed_of_stateFits (h x hx)))

theorem queueKept_mapDests {f : Entry → Destination → Destination}
    (hf : ∀ e d, (f e d).pending = d.pending) : QueueKept s (s.mapDests f) := by
  refine ⟨by simp [State.tags, Function.comp_def], fun h e he => ?_⟩
  simp only [mapDests_queue, List.mem_map] at he
  obtain ⟨x, hx, rfl⟩ := he
  exact Entry.stateFits_mapActive (hf x) (h x hx)

theorem queueKept_refreshEvents (which : Port → Bool) : QueueKept s (s.refreshEvents which) :=
  s.queueKept_mapDests_settle _

theorem queueKept_expireEvents : QueueKept s s.expireEvents := s.queueKept_mapDests_settle _

theorem queueKept_flushEvents : QueueKept s s.flushEvents := s.queueKept_mapDests_settle _

theorem queueKept_flushUnsent : QueueKept s s.flushUnsent := s.queueKept_mapDests_settle _

/-! #### The lines -/

/-- A destination whose packet starts stays PENDING. -/
theorem pending_startDestination (e : Entry) (d : Destination) :
    (startDestination e s d).pending = d.pending := by
  unfold startDestination
  split
  · next h => simp [Destination.pending, h]
  · rfl

theorem pending_interrupt (d : Destination) : d.interrupt.pending = d.pending := by
  unfold Destination.interrupt
  split
  · next h => simp [Destination.pending, h]
  · rfl

theorem queueKept_startEvent (p : Port) (tag : Byte) : QueueKept s (s.startEvent p tag) := by
  unfold startEvent
  split
  · have hmap := queueKept_mapDests s
      (f := fun e d => if e.tag = tag ∧ d.port = p then startDestination e s d else d) (fun e d => by
        split
        · exact s.pending_startDestination e d
        · rfl)
    exact hmap.trans (.of_queue_eq (by simp))
  · exact .refl s

theorem queueKept_startClaim (p : Port) (c : Claim) : QueueKept s (s.startClaim p c) := by
  cases c
  case event tag => exact s.queueKept_startEvent p tag
  all_goals exact .of_queue_eq (by simp [startClaim])

theorem queueKept_grant (p : Port) : QueueKept s (s.grant p) := by
  unfold grant
  split
  · split
    · exact s.queueKept_startClaim p _
    · exact .refl s
  · exact .refl s

theorem queueKept_grantAll : QueueKept s s.grantAll :=
  ((s.queueKept_grant .vision).trans (queueKept_grant _ .sound)).trans (queueKept_grant _ .cab)

theorem queueKept_expireAll : QueueKept s s.expireAll :=
  (QueueKept.of_queue_eq (by simp)).trans (queueKept_expireEvents _)

theorem queueKept_finishLines : QueueKept s s.finishLines :=
  s.queueKept_expireAll.trans (queueKept_grantAll _)

theorem queueKept_kick : QueueKept s s.kick := .of_queue_eq (by simp)

theorem queueKept_completePacket (p : Port) : QueueKept s (s.completePacket p) := by
  unfold completePacket
  dsimp only
  split
  · exact .refl s
  · split
    · exact .of_queue_eq (by simp)
    · split
      · exact (QueueKept.of_queue_eq (by simp)).trans (queueKept_mapDests_settle _ _)
      · exact .of_queue_eq (by simp)
    all_goals exact .of_queue_eq (by simp)

theorem queueKept_interrupt (p : Port) : QueueKept s (s.interrupt p) := by
  unfold interrupt
  dsimp only
  split
  · exact .refl s
  · split
    case h_3 =>
      split
      · refine (QueueKept.of_queue_eq (by simp)).trans (queueKept_mapDests _ fun e d => ?_)
        split
        · exact pending_interrupt d
        · rfl
      · exact .of_queue_eq (by simp)
    case h_1 => split <;> exact .of_queue_eq (by simp)
    case h_2 => split <;> exact .of_queue_eq (by simp)
    case h_4 => exact .of_queue_eq (by simp)
    case h_5 => split <;> exact .of_queue_eq (by simp)

/-! #### The hub states and the ports -/

theorem queueKept_snapshotConditions : QueueKept s s.snapshotConditions := .of_queue_eq (by simp)

theorem queueKept_enterPaused (cause : StateCause) : QueueKept s (s.enterPaused cause) := by
  refine QueueKept.trans ?_ (queueKept_snapshotConditions _)
  refine QueueKept.trans ?_ (queueKept_flushEvents _)
  exact .of_queue_eq (by simp)

theorem queueKept_notePort (p : Port) (left : PortState) (cause : PortCause) :
    QueueKept s (s.notePort p left cause) := .of_queue_eq (by simp)

theorem queueKept_enterHalted (reason : HaltReason) (cause : StateCause) :
    QueueKept s (s.enterHalted reason cause) :=
  (QueueKept.of_queue_eq (by simp)).trans (queueKept_flushEvents _)

theorem queueKept_rampStep : QueueKept s s.rampStep := by
  by_cases hin : s.ctrl.st = .rampIn
  · rw [rampStep_of_rampIn hin]
    split <;> exact .of_queue_eq (by simp)
  by_cases hout : s.ctrl.st = .rampOut
  · rw [rampStep_of_rampOut hout]
    split
    · exact s.queueKept_enterPaused _
    · exact .of_queue_eq (by simp)
  · rw [rampStep_of_steady hin hout]
    exact .refl s

theorem queueKept_clockLost : QueueKept s s.clockLost := by
  obtain h | h := s.clockLost_eq
  · rw [h]
    exact s.queueKept_enterHalted _ _
  · exact .of_queue_eq (by rw [h])

theorem queueKept_controllerFrameStart (expired : Bool) :
    QueueKept s (s.controllerFrameStart expired) := by
  unfold controllerFrameStart
  split
  · split
    · exact s.queueKept_clockLost.trans (queueKept_rampStep _)
    · exact s.queueKept_rampStep.trans (queueKept_clockLost _)
  · exact s.queueKept_rampStep

theorem queueKept_losePort (p : Port) : QueueKept s (s.losePort p) := by
  refine QueueKept.trans ?_ (queueKept_notePort _ _ _ _)
  refine QueueKept.trans ?_ (queueKept_mapDests_settle _ _)
  exact .of_queue_eq (by simp)

theorem queueKept_portLost (p : Port) : QueueKept s (s.portLost p) := by
  obtain h | h := portLost_eq p s
  · rw [h]
    exact s.queueKept_enterHalted _ _
  · exact .of_queue_eq (by rw [h])

theorem queueKept_echoFrameStart (p : Port) : QueueKept s (s.echoFrameStart p) := by
  unfold echoFrameStart
  dsimp only
  split
  · exact ((QueueKept.of_queue_eq (by simp)).trans (queueKept_losePort _ p)).trans
      (queueKept_portLost _ p)
  · exact .of_queue_eq (by simp)

theorem queueKept_deliveryFrameStart (r : Bool) : QueueKept s (s.deliveryFrameStart r) := by
  unfold deliveryFrameStart
  dsimp only
  split
  · exact ((QueueKept.of_queue_eq (by simp)).trans (queueKept_flushUnsent _)).trans
      (queueKept_finishLines _)
  · exact ((QueueKept.of_queue_eq (by simp)).trans (queueKept_refreshEvents _ _)).trans
      (queueKept_finishLines _)

theorem queueKept_frameStart : QueueKept s s.frameStart := by
  refine frameStart_keeps (P := QueueKept s) ?_ (.of_queue_eq (by simp))
  exact
    { hand := fun t h => h.trans (.of_queue_eq (by simp))
      controller := fun t h => h.trans (t.queueKept_controllerFrameStart _)
      channels := fun t h => h.trans (.of_queue_eq (by simp))
      gens := fun r t h => h.trans (.of_queue_eq (by simp))
      echo := fun p t h => h.trans (t.queueKept_echoFrameStart p)
      delivery := fun r t h => h.trans (t.queueKept_deliveryFrameStart r)
      finish := fun t h => h.trans t.queueKept_finishLines
      choice := fun t h => h.trans (.of_queue_eq (by simp))
      kick := fun t h => h.trans t.queueKept_kick }

@[simp] theorem enterSetup_queue : s.enterSetup.queue = [] := by
  simp [enterSetup, clearDynamic]

theorem queueKept_enterArmed : QueueKept s s.enterArmed :=
  (QueueKept.of_queue_eq (by simp)).trans (queueKept_finishLines _)

theorem queueKept_relatency (p : Port) : QueueKept s (s.relatency p) := by
  unfold relatency
  dsimp only
  split
  · exact .of_queue_eq (by simp)
  · exact (QueueKept.of_queue_eq (by simp)).trans (queueKept_refreshEvents _ _)

theorem queueKept_reguard (p : Port) : QueueKept s (s.reguard p) :=
  (QueueKept.of_queue_eq (by simp)).trans (queueKept_refreshEvents _ _)

theorem queueKept_takeEchoReply (p : Port) (arrival : Instant) (number delay turnaround : Word) :
    QueueKept s (s.takeEchoReply p arrival number delay turnaround) := by
  unfold takeEchoReply
  dsimp only
  split
  · exact .refl s
  · next sent _ =>
    have hlatency := (QueueKept.of_queue_eq (s := s)
      (t := s.withPort p { s.port p with
        st := .running, echo := (s.port p).echo.answered sent arrival delay turnaround }) (by simp)).trans
      (queueKept_relatency _ p)
    refine QueueKept.trans ?_ (queueKept_kick _)
    refine QueueKept.trans ?_ (queueKept_finishLines _)
    refine QueueKept.trans ?_ (queueKept_notePort _ _ _ _)
    split
    · exact hlatency
    · exact hlatency.trans (.of_queue_eq (by simp))

/-! #### Events posted, cancelled and collected -/

theorem mem_insertEntry {e x : Entry} {q : List Entry} : x ∈ insertEntry e q ↔ x = e ∨ x ∈ q := by
  induction q with
  | nil => simp [insertEntry]
  | cons y ys ih =>
    unfold insertEntry
    split
    · simp
    · simp only [List.mem_cons, ih]
      tauto

theorem insertEntry_perm (e : Entry) (q : List Entry) : (insertEntry e q).Perm (e :: q) := by
  induction q with
  | nil => exact .refl _
  | cons y ys ih =>
    unfold insertEntry
    split
    · exact .refl _
    · exact (ih.cons y).trans (.swap e y ys)

theorem dropDone_sublist (n : Nat) (q : List Entry) : (dropDone n q).Sublist q := by
  fun_induction dropDone n q with
  | case1 q => exact .refl q
  | case2 n => exact .refl []
  | case3 n e es _ ih => exact .cons e ih
  | case4 n e es _ ih => exact .cons_cons e ih

/-- A post in range names a port (R142). -/
theorem destinationsOf_ne_nil {q : PostRequest} (h : postInRange q = true) :
    destinationsOf q.destinations ≠ [] := by
  have hset : 1 ≤ q.destinations.toNat ∧ q.destinations.toNat ≤ 7 := by
    simp [postInRange] at h
    omega
  generalize q.destinations = set at hset ⊢
  revert set
  decide

theorem pending_of_isWaiting {d : Destination} (h : d.isWaiting = true) : d.pending = true := by
  unfold Destination.isWaiting at h
  unfold Destination.pending
  split at h
  · next hst => simp [hst]
  · cases h

/-- The entry that an accepted post becomes, with the releases reached at its admission (R144). -/
def posted (q : PostRequest) (f : Frame) (used : Nat) (s : State) : Entry :=
  { s.newEntry q f used with
    dests := (s.newEntry q f used).dests.map (Destination.releaseIfReached s) }

theorem admitEntry_eq (q : PostRequest) (f : Frame) (used : Nat) :
    s.admitEntry q f used =
      if (posted q f used s).dests.all Destination.isWaiting then
        s.withQueue (insertEntry (posted q f used s) s.queue)
      else
        ((s.withQueue (insertEntry (posted q f used s) s.queue)).settleEntry
          (posted q f used s)).finishLines := rfl

theorem posted_dests_ne_nil {q : PostRequest} (f : Frame) (used : Nat) (s : State)
    (h : postInRange q = true) : (posted q f used s).dests ≠ [] := by
  simpa [posted, newEntry] using destinationsOf_ne_nil h

/-- An entry whose destinations all wait is settled: it has one (R142). -/
theorem stateFits_posted {q : PostRequest} {f : Frame} {used : Nat} {s : State}
    (h : postInRange q = true) (hwait : (posted q f used s).dests.all Destination.isWaiting = true) :
    (posted q f used s).stateFits := by
  obtain ⟨d, hd⟩ := List.exists_mem_of_ne_nil _ (posted_dests_ne_nil f used s h)
  have hpending : (posted q f used s).dests.any Destination.pending = true :=
    List.any_eq_true.mpr ⟨d, hd, pending_of_isWaiting (List.all_eq_true.mp hwait d hd)⟩
  have hst : (posted q f used s).st = .active := rfl
  simp [Entry.stateFits, hpending, hst]

theorem tags_settleEntry (e : Entry) : (s.settleEntry e).tags = s.tags := by
  unfold State.tags
  rw [settleEntry_queue, List.map_map]
  refine List.map_congr_left fun x _ => ?_
  dsimp only [Function.comp_apply]
  split <;> simp

theorem settled_admitEntry {q : PostRequest} (f : Frame) (used : Nat) {s : State}
    (hrange : postInRange q = true) (h : s.settled) : (s.admitEntry q f used).settled := by
  rw [admitEntry_eq]
  split
  · next hwait =>
    intro e he
    obtain rfl | he := mem_insertEntry.mp he
    · exact stateFits_posted hrange hwait
    · exact h e he
  · refine (queueKept_finishLines _).settled fun e he => ?_
    rw [settleEntry_queue] at he
    obtain ⟨x, hx, rfl⟩ := List.mem_map.mp he
    obtain rfl | hx := mem_insertEntry.mp hx
    · have hactive : (posted q f used s).closed := fun hst => by cases hst
      by_cases hf : (posted q f used s).finished = true
      · simpa [hf] using Entry.stateFits_close hactive
      · have hclose : (posted q f used s).close = posted q f used s := by simp [Entry.close, hf]
        rw [← hclose]
        simpa [hf, hclose] using Entry.stateFits_close hactive
    · split
      · exact Entry.stateFits_close (Entry.closed_of_stateFits (h x hx))
      · exact h x hx

theorem tags_admitEntry_perm (q : PostRequest) (f : Frame) (used : Nat) :
    (s.admitEntry q f used).tags.Perm (q.eventTag :: s.tags) := by
  have hinsert : (s.withQueue (insertEntry (posted q f used s) s.queue)).tags.Perm
      (q.eventTag :: s.tags) :=
    (insertEntry_perm (posted q f used s) s.queue).map fun e : Entry => e.tag
  rw [admitEntry_eq]
  split
  · exact hinsert
  · rwa [(queueKept_finishLines _).tags, tags_settleEntry]

/-- The state after a cancellation: the entries of the tag dropped, and closed as the entry is. -/
theorem cancel_queue (tag : Byte) (e : Entry) :
    ((s.mapDests (fun x d => if x.tag = tag then d.drop else d)).settleEntry e).queue =
      (s.queue.map (Entry.mapActive (fun x d => if x.tag = tag then d.drop else d))).map
        (fun x => if e.finished && e.tag == x.tag then x.close else x) := by
  rw [settleEntry_queue, mapDests_queue]

theorem settled_cancel {s : State} {tag : Byte} {e : Entry}
    (hfind : s.queue.find? (fun e => e.tag = tag) = some e) (hwaits : cancellable e = true)
    (h : s.settled) :
    ((s.mapDests (fun x d => if x.tag = tag then d.drop else d)).settleEntry
      { e with dests := e.dests.map Destination.drop }).settled := by
  have htag : e.tag = tag := by simpa using List.find?_some hfind
  have hfinished : ({ e with dests := e.dests.map Destination.drop } : Entry).finished = true := by
    have hst : e.st = .active := by simp [cancellable] at hwaits; exact hwaits.1
    have hdrop : ∀ d : Destination, d.drop.pending = false := by
      intro d
      unfold Destination.drop
      split
      · rfl
      · next h => simpa using h
    simp [Entry.finished, hst, hdrop]
  intro x hx
  rw [cancel_queue] at hx
  simp only [List.mem_map] at hx
  obtain ⟨-, ⟨y, hy, rfl⟩, rfl⟩ := hx
  rw [hfinished]
  have hclosed := Entry.closed_of_stateFits (h y hy)
  by_cases ht : y.tag = tag
  · have hcond : (tag == (y.mapActive (fun x d => if x.tag = tag then d.drop else d)).tag) = true := by
      simp [ht]
    simp only [htag, hcond, Bool.and_self, if_true]
    exact Entry.stateFits_close (Entry.closed_mapActive _ hclosed)
  · have hmap : y.mapActive (fun x d => if x.tag = tag then d.drop else d) = y := by
      simp [Entry.mapActive, ht]
    have hcond : (tag == y.tag) = false := by simpa using Ne.symm ht
    simpa [hmap, htag, hcond] using h y hy

end State

/-- Every deed but an accepted post, a cancellation, a collection and SETUP entry keeps the queue. -/
theorem Deed.queueKept_cases {s t : State} (hd : Deed s t) :
    State.QueueKept s t ∨ t.queue = [] ∨ (∃ n, t = s.withQueue (State.dropDone n s.queue)) ∨
      (∃ q f used, State.postInRange q = true ∧ (∀ e ∈ s.queue, e.tag ≠ q.eventTag) ∧
        s.queue.length < Config.eventQueueSize ∧ t = s.admitEntry q f used) ∨
      ∃ tag e, s.queue.find? (fun e => e.tag = tag) = some e ∧ State.cancellable e = true ∧
        t = (s.mapDests (fun x d => if x.tag = tag then d.drop else d)).settleEntry
          { e with dests := e.dests.map Destination.drop } := by
  cases hd
  case enterSetup => exact .inr (.inl s.enterSetup_queue)
  case collect n => exact .inr (.inr (.inl ⟨n, rfl⟩))
  case enqueue q f used _ hrange htag hroom =>
    exact .inr (.inr (.inr (.inl ⟨q, f, used, hrange, htag, hroom, rfl⟩)))
  case cancel tag e hfind hwaits => exact .inr (.inr (.inr (.inr ⟨tag, e, hfind, hwaits, rfl⟩)))
  all_goals refine .inl ?_
  case frameStart => exact s.queueKept_frameStart
  case enterArmed => exact s.queueKept_enterArmed
  case pause => exact s.queueKept_enterPaused _
  case halt => exact s.queueKept_enterHalted _ _
  case relatency p => exact s.queueKept_relatency p
  case reguard p => exact s.queueKept_reguard p
  case finishLines => exact s.queueKept_finishLines
  case complete p => exact s.queueKept_completePacket p
  case releaseDest => exact s.queueKept_mapDests_settle _
  case missDest => exact s.queueKept_mapDests_settle _
  case echoReply => exact s.queueKept_takeEchoReply _ _ _ _ _
  case interrupt p => exact s.queueKept_interrupt p
  case writeRoute => exact .of_queue_eq rfl
  case rxError => exact .of_queue_eq rfl
  all_goals
    exact .of_queue_eq
      (by simp [State.endBeat, State.setWait, State.setAbort, State.writeRamps, State.enterMotion,
        apply_ite State.queue])

theorem Deed.keeps_settled {s t : State} (hd : Deed s t) (h : s.settled) : t.settled := by
  obtain hq | hq | ⟨n, rfl⟩ | ⟨q, f, used, hrange, -, -, rfl⟩ | ⟨tag, e, hfind, hwaits, rfl⟩ :=
    hd.queueKept_cases
  · exact hq.settled h
  · simp [State.settled, hq]
  · exact fun e he => h e ((State.dropDone_sublist n s.queue).subset he)
  · exact State.settled_admitEntry f used hrange h
  · exact State.settled_cancel hfind hwaits h

theorem Act.keeps_settled {s t : State} (ha : Act s t) (h : s.settled) : t.settled := by
  cases ha with
  | deed hd => exact hd.keeps_settled h
  | reply r => exact (State.QueueKept.of_queue_eq (by simp)).settled h
  | sent => exact (State.QueueKept.of_queue_eq (by simp)).settled h
  | framer fr => exact (State.QueueKept.of_queue_eq (by simp)).settled h

/-! ### The stores of fixed size (R140, R164, R179) -/

/-- The event queue within its size and without a tag twice, by its tags alone. -/
theorem State.queue_length_eq_tags (s : State) : s.queue.length = s.tags.length := by
  simp [State.tags]

theorem State.fifo_writeStamp_le {s : State} (x : StampSource) (e : EdgeKind) (t : Instant)
    (h : s.cab.fifo.length ≤ Config.stampFifoSize) :
    (s.writeStamp x e t).cab.fifo.length ≤ Config.stampFifoSize := by
  unfold State.writeStamp
  dsimp only
  split
  · exact h
  · split
    all_goals
      simp
      omega

namespace State

variable (s : State)

@[simp] theorem snapshotConditions_fifo : s.snapshotConditions.cab.fifo = s.cab.fifo := rfl

@[simp] theorem enterPaused_fifo (cause : StateCause) :
    (s.enterPaused cause).cab.fifo = s.cab.fifo := by
  simp [enterPaused]

@[simp] theorem rampStep_fifo : s.rampStep.cab.fifo = s.cab.fifo := by
  by_cases hin : s.ctrl.st = .rampIn
  · rw [rampStep_of_rampIn hin]
    split <;> simp
  by_cases hout : s.ctrl.st = .rampOut
  · rw [rampStep_of_rampOut hout]
    split <;> simp
  · rw [rampStep_of_steady hin hout]

@[simp] theorem controllerFrameStart_fifo (expired : Bool) :
    (s.controllerFrameStart expired).cab.fifo = s.cab.fifo := by
  unfold controllerFrameStart
  split
  · split <;> simp
  · simp

/-- A frame start leaves the stamps alone. -/
@[simp] theorem frameStart_fifo : s.frameStart.cab.fifo = s.cab.fifo := by
  refine frameStart_keeps (P := fun t => t.cab.fifo = s.cab.fifo) ?_ (by simp)
  exact
    { hand := fun t h => by simpa using h
      controller := fun t h => by simpa using h
      channels := fun t h => by simpa using h
      gens := fun r t h => by simpa using h
      echo := fun p t h => by simpa using h
      delivery := fun r t h => by simpa using h
      finish := fun t h => by simpa using h
      choice := fun t h => by simpa using h
      kick := fun t h => by simpa using h }

@[simp] theorem enterSetup_fifo : s.enterSetup.cab.fifo = [] := by
  simp [enterSetup, clearDynamic, clearCab]

@[simp] theorem sentRecord_replies :
    s.sentRecord.link.replies = if s.link.tx = .reply then s.link.replies.drop 1 else s.link.replies := by
  simp [sentRecord]

end State

theorem Deed.keeps_fifo {s t : State} (hd : Deed s t)
    (h : s.cab.fifo.length ≤ Config.stampFifoSize) : t.cab.fifo.length ≤ Config.stampFifoSize := by
  cases hd
  case cab c hc => exact hc.trans h
  case stamp x e u => exact State.fifo_writeStamp_le x e u h
  case writeRoute => exact h
  case rxError => exact h
  case enterSetup => simp
  all_goals
    simpa [State.endBeat, State.setWait, State.setAbort, State.writeRamps, State.enterMotion,
      apply_ite State.cab] using h

theorem Deed.keeps_tags {s t : State} (hd : Deed s t)
    (h : s.tags.length ≤ Config.eventQueueSize ∧ s.tags.Nodup) :
    t.tags.length ≤ Config.eventQueueSize ∧ t.tags.Nodup := by
  obtain hq | hq | ⟨n, rfl⟩ | ⟨q, f, used, -, htag, hroom, rfl⟩ | ⟨tag, e, -, -, rfl⟩ :=
    hd.queueKept_cases
  · rwa [hq.tags]
  · simp [State.tags, hq]
  · have hsub := (State.dropDone_sublist n s.queue).map (·.tag)
    exact ⟨hsub.length_le.trans h.1, hsub.nodup h.2⟩
  · have hperm := s.tags_admitEntry_perm q f used
    have hnew : q.eventTag ∉ s.tags := by
      intro hmem
      obtain ⟨e, he, ht⟩ := List.mem_map.mp hmem
      exact htag e he ht
    refine ⟨?_, hperm.nodup_iff.mpr (List.nodup_cons.mpr ⟨hnew, h.2⟩)⟩
    rw [hperm.length_eq, List.length_cons, ← s.queue_length_eq_tags]
    exact hroom
  · rw [State.tags_settleEntry]
    simpa [State.tags, Function.comp_def] using h

/-- The stores within their sizes, and no tag twice. -/
abbrev State.inBounds (s : State) : Prop := s.storesFit ∧ s.tagsFit

theorem Act.keeps_inBounds {s t : State} (ha : Act s t) (h : s.inBounds) : t.inBounds := by
  obtain ⟨⟨hreplies, hqueue, hfifo⟩, htags⟩ := h
  cases ha with
  | deed hd =>
    rw [State.queue_length_eq_tags] at hqueue
    obtain ⟨hqueue', htags'⟩ := hd.keeps_tags ⟨hqueue, htags⟩
    rw [← State.queue_length_eq_tags] at hqueue'
    exact ⟨⟨by rwa [hd.replies], hqueue', hd.keeps_fifo hfifo⟩, htags'⟩
  | reply r hroom =>
    have hlen : (s.pushReply r).link.replies.length = s.link.replies.length + 1 := by
      simp [State.pushReply]
    have hframe : (s.pushReply r).queue = s.queue ∧ (s.pushReply r).cab = s.cab := by simp
    refine ⟨⟨by omega, ?_, ?_⟩, ?_⟩
    · rwa [hframe.1]
    · rwa [hframe.2]
    · rwa [State.tagsFit, hframe.1]
  | sent =>
    have hlen : s.sentRecord.link.replies.length ≤ s.link.replies.length := by
      rw [State.sentRecord_replies]
      split <;> simp
    have hframe : s.sentRecord.queue = s.queue ∧ s.sentRecord.cab = s.cab := by simp
    refine ⟨⟨hlen.trans hreplies, ?_, ?_⟩, ?_⟩
    · rwa [hframe.1]
    · rwa [hframe.2]
    · rwa [State.tagsFit, hframe.1]
  | framer fr => exact ⟨⟨hreplies, hqueue, hfifo⟩, htags⟩

end Sys2Proof.Machine

section
open Sys2Proof Sys2Proof.Machine

/-- Settles O57: a destination leaves PENDING only in a step that closes its entry, and a DONE entry never
takes a destination up again. -/
theorem stepKeepsEntriesSettled : Obligations.StepKeepsEntriesSettled := by
  unfold Obligations.StepKeepsEntriesSettled
  intro s t hfit hstep
  refine step_keeps (P := State.settled) (fun _ _ => Act.keeps_settled) ?_ ?_ ?_ hstep hfit
  · intro s rate e he
    cases he
  · intro s h
    exact (State.QueueKept.of_queue_eq (by simp)).settled h
  · intro s l h
    exact h

/-- Settles O56: a reply, an event and a stamp each join their store only where it has room, an event only
under a tag that none holds. -/
theorem stepKeepsTheStoresInBounds : Obligations.StepKeepsTheStoresInBounds := by
  unfold Obligations.StepKeepsTheStoresInBounds
  intro s t hstores htags hstep
  refine step_keeps (P := State.inBounds) (fun _ _ => Act.keeps_inBounds) ?_ ?_ ?_ hstep
    ⟨hstores, htags⟩
  · intro s rate
    exact ⟨⟨Nat.zero_le _, Nat.zero_le _, Nat.zero_le _⟩, List.nodup_nil⟩
  · intro s h
    simpa [State.inBounds, State.storesFit, State.tagsFit] using h
  · intro s l h
    exact h

end

/-! ### Ports, schedulers and destinations in agreement (R22, R96, R126, R146, R150)

An event that moves no port between its states leaves a scheduler there or absent as it was, brings nothing to a
port in OFF, and makes a destination DUE or IN_FLIGHT only on a RUNNING port. -/

namespace Sys2Proof.Machine

/-- The port stays in its state, its scheduler there or absent as it was, and quiet if it is OFF. -/
structure BoardPort.Kept (b c : BoardPort) : Prop where
  st : c.st = b.st
  sched : c.sched = none ↔ b.sched = none
  quiet : b.quietWhenOff → c.quietWhenOff

namespace BoardPort.Kept

theorem refl (b : BoardPort) : b.Kept b := ⟨rfl, Iff.rfl, id⟩

theorem trans {b c d : BoardPort} (h : b.Kept c) (h' : c.Kept d) : b.Kept d :=
  ⟨h'.st.trans h.st, h'.sched.trans h.sched, h'.quiet ∘ h.quiet⟩

/-- A port that is not OFF has no quiet to keep. -/
theorem of_busy {b c : BoardPort} (hb : b.st ≠ .off) (hst : c.st = b.st)
    (hsched : c.sched = none ↔ b.sched = none) : b.Kept c :=
  ⟨hst, hsched, fun _ hoff => absurd (hst ▸ hoff) hb⟩

/-- What a quiet port holds is not there on a port in OFF. -/
theorem of_scheduled {b c : BoardPort} (hb : b.sched ≠ none) (hst : c.st = b.st)
    (hsched : c.sched ≠ none) : b.Kept c :=
  ⟨hst, by simp [hb, hsched], fun h hoff => by
    obtain ⟨-, -, -, -, hnone, -, -⟩ := h (hst ▸ hoff)
    exact absurd hnone hb⟩

/-- A change of other fields than the ones a port in OFF leaves empty. -/
theorem of_eq {b c : BoardPort} (hst : c.st = b.st) (hinFlight : c.inFlight = b.inFlight)
    (hconts : c.conts = b.conts) (hneutral : c.neutral = b.neutral) (hdue : c.echoDue = b.echoDue)
    (hsched : c.sched = none ↔ b.sched = none) (hecho : c.echo.outstanding = b.echo.outstanding)
    (hwindow : c.window = b.window) : b.Kept c := by
  refine ⟨hst, hsched, fun h hoff => ?_⟩
  obtain ⟨h1, h2, h3, h4, h5, h6, h7⟩ := h (hst ▸ hoff)
  exact ⟨hinFlight.trans h1, hconts.trans h2, hneutral.trans h3, hdue.trans h4, hsched.mpr h5,
    hecho.trans h6, hwindow.trans h7⟩

theorem withLatencies (b : BoardPort) : b.Kept b.withLatencies :=
  of_eq rfl rfl rfl rfl rfl Iff.rfl rfl rfl

theorem reform (c : Clock) (b : BoardPort) : b.Kept (b.reform c) := by
  unfold BoardPort.reform
  split
  · next sc hsc => exact of_scheduled (by simp [hsc]) rfl (by simp)
  · exact refl b

theorem takeFirst (c : Clock) {b : BoardPort} (hb : b.sched ≠ none) : b.Kept (b.takeFirst c) :=
  of_scheduled hb rfl (by simp [BoardPort.takeFirst])

theorem issueEcho {b : BoardPort} (hb : b.st ≠ .off) : b.Kept b.issueEcho := by
  unfold BoardPort.issueEcho
  split
  · exact refl b
  · exact of_busy hb rfl Iff.rfl

theorem ageOpening (now : Instant) (b : BoardPort) : b.Kept (b.ageOpening now) :=
  of_eq rfl rfl rfl rfl rfl Iff.rfl rfl rfl

/-- Ageing finds no echo on a port in OFF. -/
theorem ageEcho (b : BoardPort) : b.Kept b.ageEcho := by
  unfold BoardPort.ageEcho
  split
  · next o ho =>
    have hkept {c : BoardPort} (hst : c.st = b.st) (hsched : c.sched = b.sched) : b.Kept c := by
      refine ⟨hst, by rw [hsched], fun h hoff => ?_⟩
      obtain ⟨-, -, -, -, -, hnone, -⟩ := h (hst ▸ hoff)
      rw [ho] at hnone
      cases hnone
    split <;> exact hkept rfl rfl
  · exact refl b

theorem frameStartIssue (b : BoardPort) : b.Kept b.frameStartIssue := by
  unfold BoardPort.frameStartIssue
  split
  · exact refl b
  · next h => exact issueEcho (by simp [h])
  · next h => exact issueEcho (by simp [h])
  · next h =>
    have hbusy : b.st ≠ .off := by simp [h]
    split
    · exact issueEcho hbusy
    · split
      · exact (of_busy (c := { b with echo := { b.echo with intervalCount := 0 } }) hbusy rfl
          Iff.rfl).trans (issueEcho hbusy)
      · exact of_busy hbusy rfl Iff.rfl

end BoardPort.Kept

/-- The arbiter chooses one of the claims. -/
theorem earliest_mem {xs : List (Instant × Claim)} {c : Claim} (h : earliest xs = some c) :
    ∃ t, (t, c) ∈ xs := by
  cases xs with
  | nil => cases h
  | cons x xs =>
    have hfold (ys : List (Instant × Claim)) (b : Instant × Claim) :
        ys.foldl (fun best y => if past y.1 best.1 then y else best) b ∈ b :: ys := by
      induction ys generalizing b with
      | nil => simp
      | cons y ys ih =>
        rw [List.foldl_cons]
        split
        · exact List.mem_cons_of_mem _ (ih y)
        · obtain hb | hb := List.mem_cons.mp (ih b)
          · exact List.mem_cons.mpr (.inl hb)
          · exact List.mem_cons_of_mem _ (List.mem_cons_of_mem _ hb)
    obtain rfl := Option.some.inj h
    exact ⟨_, hfold xs x⟩

/-- A destination that is DUE or IN_FLIGHT has a RUNNING port. -/
def Destination.placed (s : State) (d : Destination) : Prop :=
  match d.state with
  | .due _ | .inFlight _ => (s.port d.port).st = .running
  | .waiting _ _ | .sent | .missed | .dropped => True

namespace Destination

theorem placed_of_not_pending {s : State} {d : Destination} (h : d.pending = false) : d.placed s := by
  unfold placed
  unfold pending at h
  split <;> simp_all

theorem placed_of_due {s : State} {d : Destination} {l : Instant} (hd : d.state = .due l)
    (h : d.placed s) : (s.port d.port).st = .running := by
  simpa [placed, hd] using h

theorem placed_drop {s : State} {d : Destination} (h : d.placed s) : d.drop.placed s := by
  unfold drop
  split
  · exact trivial
  · exact h

theorem placed_dropUnsent {s : State} {d : Destination} (h : d.placed s) : d.dropUnsent.placed s := by
  unfold dropUnsent
  split
  · exact h
  · exact placed_drop h

theorem placed_send {s : State} {d : Destination} (h : d.placed s) : d.send.placed s := by
  unfold send
  split
  · exact trivial
  · exact h

theorem placed_interrupt {s : State} {d : Destination} (h : d.placed s) : d.interrupt.placed s := by
  unfold interrupt
  split
  · next l hl => simpa [placed, hl] using h
  · exact h

theorem placed_expire {s : State} {now : Instant} {d : Destination} (h : d.placed s) :
    (d.expire now).placed s := by
  unfold expire
  split
  · split
    · exact trivial
    · exact h
  · exact h

/-- A release puts an EVENT packet on a RUNNING port only (R146). -/
theorem placed_release {s : State} {d : Destination} (h : d.placed s) : (d.release s).placed s := by
  unfold release
  split
  · split
    · exact trivial
    · next hst =>
      split
      · exact trivial
      · simpa [placed] using hst
  · exact h

theorem placed_releaseIfReached {s : State} {d : Destination} (h : d.placed s) :
    (d.releaseIfReached s).placed s := by
  unfold releaseIfReached
  split
  · split
    · exact placed_release h
    · exact h
  · exact h

theorem placed_refresh {s : State} {e : Entry} {d : Destination} (h : d.placed s) :
    (d.refresh s e).placed s := by
  unfold refresh
  split
  · exact placed_releaseIfReached trivial
  · next hl =>
    split
    · have hrunning := placed_of_due hl h
      exact hrunning
    · exact h
  · exact h

end Destination

theorem Entry.active_of_close {e : Entry} (h : e.close.st = .active) : e.st = .active := by
  unfold Entry.close at h
  split at h
  · cases h
  · exact h

namespace State

/-- Every DUE or IN_FLIGHT destination of an ACTIVE entry has a RUNNING port, by name. -/
theorem destinationsFit_iff (s : State) :
    s.destinationsFit ↔ (s.ctrl.st = .setup → s.queue = []) ∧
      ∀ e ∈ s.queue, e.st = .active → ∀ d ∈ e.dests, d.placed s := Iff.rfl

/-- No port moves between its states, and nothing else disagrees with them. -/
structure PortsKept (s t : State) : Prop where
  hub : t.ctrl.st = s.ctrl.st
  port : ∀ p, (s.port p).Kept (t.port p)
  dests : s.destinationsFit → t.destinationsFit

namespace PortsKept

theorem refl (s : State) : PortsKept s s := ⟨rfl, fun _ => .refl _, id⟩

theorem trans {s t u : State} (h : PortsKept s t) (h' : PortsKept t u) : PortsKept s u :=
  ⟨h'.hub.trans h.hub, fun p => (h.port p).trans (h'.port p), h'.dests ∘ h.dests⟩

theorem delivers {s t : State} (h : PortsKept s t) : t.deliversCues = s.deliversCues := by
  simp [deliversCues, h.hub]

theorem portsFit {s t : State} (h : PortsKept s t) (hs : s.portsFit) : t.portsFit where
  setup hst p := (h.port p).st.trans (hs.setup (h.hub ▸ hst) p)
  quiet p := (h.port p).quiet (hs.quiet p)
  schedulers p := by
    rw [h.delivers, (h.port p).st, ← hs.schedulers p]
    exact not_congr (h.port p).sched
  destinations := h.dests hs.destinations

/-- The destinations depend on the states of the ports alone. -/
theorem placed_of_st {s t : State} (hport : ∀ p, (t.port p).st = (s.port p).st) {d : Destination}
    (h : d.placed s) : d.placed t := by
  unfold Destination.placed at h ⊢
  split
  · next hd => rw [hport]; simpa only [hd] using h
  · next hd => rw [hport]; simpa only [hd] using h
  all_goals trivial

theorem of_queue_eq {s t : State} (hhub : t.ctrl.st = s.ctrl.st) (hqueue : t.queue = s.queue)
    (hport : ∀ p, (s.port p).Kept (t.port p)) : PortsKept s t where
  hub := hhub
  port := hport
  dests h := by
    rw [destinationsFit_iff] at h ⊢
    rw [hhub, hqueue]
    exact ⟨h.1, fun e he ha d hd => placed_of_st (fun p => (hport p).st) (h.2 e he ha d hd)⟩

theorem of_ports_eq {s t : State} (hhub : t.ctrl.st = s.ctrl.st) (hqueue : t.queue = s.queue)
    (hports : t.ports = s.ports) : PortsKept s t :=
  .of_queue_eq hhub hqueue fun p => by
    have : t.port p = s.port p := by simp [State.port, hports]
    rw [this]
    exact .refl _

theorem withPort {s : State} {p : Port} {b : BoardPort} (h : (s.port p).Kept b) :
    PortsKept s (s.withPort p b) :=
  .of_queue_eq rfl rfl fun q => by
    rw [withPort_port]
    split
    · next hq => rwa [hq]
    · exact .refl _

/-- A change of the queue alone keeps the ports. -/
theorem of_queue {s t : State} (hhub : t.ctrl.st = s.ctrl.st) (hports : t.ports = s.ports)
    (hempty : s.queue = [] → t.queue = [])
    (hplaced : (∀ e ∈ s.queue, e.st = .active → ∀ d ∈ e.dests, d.placed s) →
      ∀ e ∈ t.queue, e.st = .active → ∀ d ∈ e.dests, d.placed s) : PortsKept s t := by
  have hport : ∀ p, t.port p = s.port p := fun p => by simp [State.port, hports]
  refine ⟨hhub, fun p => by rw [hport]; exact .refl _, fun h => ?_⟩
  rw [destinationsFit_iff] at h ⊢
  exact ⟨fun hst => hempty (h.1 (hhub ▸ hst)), fun e he ha d hd =>
    placed_of_st (fun p => by rw [hport]) (hplaced h.2 e he ha d hd)⟩

end PortsKept

variable (s : State)

theorem portsKept_mapDests {f : Entry → Destination → Destination}
    (hf : ∀ e d, d.placed s → (f e d).placed s) : PortsKept s (s.mapDests f) := by
  refine .of_queue (by simp) (by simp) (by simp +contextual) fun h e he ha d hd => ?_
  rw [mapDests_queue] at he
  obtain ⟨x, hx, rfl⟩ := List.mem_map.mp he
  have hactive : x.st = .active := by simpa using ha
  rw [Entry.mapActive_of_active hactive] at hd
  obtain ⟨d', hd', rfl⟩ := List.mem_map.mp hd
  exact hf x d' (h x hx hactive d' hd')

theorem portsKept_mapDest (tag : Byte) (p : Port) {f : Destination → Destination}
    (hf : ∀ d, d.placed s → (f d).placed s) : PortsKept s (s.mapDest tag p f) :=
  s.portsKept_mapDests fun e d h => by
    split
    · exact hf d h
    · exact h

theorem portsKept_settle : PortsKept s s.settle := by
  refine .of_queue (by simp) (by simp) (by simp +contextual) fun h e he ha d hd => ?_
  rw [settle_queue] at he
  obtain ⟨x, hx, rfl⟩ := List.mem_map.mp he
  exact h x hx (Entry.active_of_close ha) d (by simpa using hd)

theorem portsKept_mapDests_settle {f : Entry → Destination → Destination}
    (hf : ∀ e d, d.placed s → (f e d).placed s) : PortsKept s (s.mapDests f).settle :=
  (s.portsKept_mapDests hf).trans (portsKept_settle _)

theorem portsKept_refreshEvents (which : Port → Bool) : PortsKept s (s.refreshEvents which) :=
  s.portsKept_mapDests_settle fun e d h => by
    split
    · exact Destination.placed_refresh h
    · exact h

theorem portsKept_expireEvents : PortsKept s s.expireEvents :=
  s.portsKept_mapDests_settle fun _ _ => Destination.placed_expire

theorem portsKept_flushEvents : PortsKept s s.flushEvents :=
  s.portsKept_mapDests_settle fun _ _ => Destination.placed_drop

theorem portsKept_flushUnsent : PortsKept s s.flushUnsent :=
  s.portsKept_mapDests_settle fun _ _ => Destination.placed_dropUnsent

/-! #### Starts, ends and skips on the lines -/

theorem portsKept_skipOne {p : Port} {sc : Schedule} (hsc : (s.port p).sched = some sc) :
    PortsKept s (s.skipOne p sc) := by
  have hkept : (s.port p).Kept ((s.port p).skipFrame s.clock sc) :=
    .of_scheduled (by simp [hsc]) rfl (by simp [BoardPort.skipFrame])
  unfold skipOne
  dsimp only
  split
  · exact (PortsKept.withPort hkept).trans (.of_ports_eq (by simp) (by simp) (by simp))
  · exact .withPort hkept

theorem portsKept_skipPast (p : Port) (n : Nat) : PortsKept s (s.skipPast p n) := by
  induction n generalizing s with
  | zero => exact .refl s
  | succ n ih =>
    unfold skipPast
    split
    · next sc hsc =>
      split
      · exact (s.portsKept_skipOne hsc).trans (ih _)
      · exact .refl s
    · exact .refl s

/-- A port in OFF has no CONTINUE packet to keep or drop. -/
theorem kept_filterConts (keep : Packet → Bool) (n : Nat) (b : BoardPort) :
    b.Kept { b with conts := b.conts.filter keep, partialCount := n } := by
  refine ⟨rfl, Iff.rfl, fun h hoff => ?_⟩
  obtain ⟨h1, h2, h3, h4, h5, h6, h7⟩ := h hoff
  exact ⟨h1, by simp [h2], h3, h4, h5, h6, h7⟩

theorem portsKept_expireAll : PortsKept s s.expireAll := by
  have hport (p : Port) (u : State) : PortsKept u (u.expirePort p) :=
    (u.portsKept_skipPast p _).trans (.withPort (kept_filterConts _ _ _))
  exact (((hport .vision s).trans (hport .sound _)).trans (hport .cab _)).trans (portsKept_expireEvents _)

theorem portsKept_launch {p : Port} (k : Packet) (hp : (s.port p).st ≠ .off) :
    PortsKept s (s.launch p k) :=
  .withPort (.of_busy hp rfl Iff.rfl)

/-- A packet that waited is taken from where it waited and starts. -/
theorem portsKept_launch_withPort {p : Port} {b : BoardPort} (k : Packet) (hp : (s.port p).st ≠ .off)
    (hst : b.st = (s.port p).st) (hsched : b.sched = (s.port p).sched) :
    PortsKept s ((s.withPort p b).launch p k) :=
  (PortsKept.withPort (.of_busy hp hst (by rw [hsched]))).trans
    (portsKept_launch _ k (by simpa [hst] using hp))

theorem portsKept_startCue (p : Port) : PortsKept s (s.startCue p) := by
  unfold startCue
  split
  · exact .refl s
  · next sc hsc =>
    refine PortsKept.trans ?_ (portsKept_skipPast _ _ _)
    refine .of_queue_eq (by simp) (by simp) fun q => ?_
    simp only [withPort_port, launch]
    split
    · next hq =>
      subst hq
      exact .of_scheduled (by simp [hsc]) (by simp) (by simp)
    · exact .refl _

theorem st_ne_off_of_conts {s : State} (hs : s.portsFit) {p : Port} {k : Packet}
    (hk : k ∈ (s.port p).conts) : (s.port p).st ≠ .off := fun hoff => by
  obtain ⟨-, hconts, -⟩ := hs.quiet p hoff
  simp [hconts] at hk

theorem portsKept_startContinuation {p : Port} {k : Packet} (hp : (s.port p).st ≠ .off) :
    PortsKept s (s.startContinuation p k) :=
  s.portsKept_launch_withPort k hp rfl rfl

/-- An EVENT packet that is due is due on a RUNNING port (R150). -/
theorem running_of_dueEvent {s : State} (hs : s.portsFit) {p : Port} {tag : Byte} {k : Packet}
    (h : s.dueEvent p tag = some k) : (s.port p).st = .running := by
  unfold dueEvent at h
  obtain ⟨e, he, hk⟩ := List.exists_of_findSome?_eq_some h
  split at hk
  · next hmatch =>
    obtain ⟨d, hd, hk⟩ := List.exists_of_findSome?_eq_some hk
    split at hk
    · next l hl =>
      split at hk
      · next hp => exact hp ▸ Destination.placed_of_due hl (hs.destinations.2 e he hmatch.1 d hd)
      · cases hk
    · cases hk
  · cases hk

theorem portsKept_startEvent {s : State} (hs : s.portsFit) (p : Port) (tag : Byte) :
    PortsKept s (s.startEvent p tag) := by
  unfold startEvent
  split
  · next k hk =>
    have hmap : PortsKept s (s.mapDests fun e d =>
        if e.tag = tag ∧ d.port = p then startDestination e s d else d) := by
      refine s.portsKept_mapDests fun e d h => ?_
      split
      · unfold startDestination
        split
        · next hl =>
          have hrunning := Destination.placed_of_due hl h
          exact hrunning
        · exact h
      · exact h
    have hrunning := running_of_dueEvent hs hk
    exact hmap.trans (portsKept_launch _ k (by rw [(hmap.port p).st, hrunning]; simp))
  · exact .refl s

theorem portsKept_startNeutral {s : State} (hs : s.portsFit) (p : Port) :
    PortsKept s (s.startNeutral p) := by
  unfold startNeutral
  split
  · next k hk =>
    have hp : (s.port p).st ≠ .off := fun hoff => by
      obtain ⟨-, -, hnone, -⟩ := hs.quiet p hoff
      simp [hnone] at hk
    exact s.portsKept_launch_withPort k hp rfl rfl
  · exact .refl s

theorem portsKept_startEcho {s : State} (hs : s.portsFit) (p : Port) :
    PortsKept s (s.startEcho p) := by
  unfold startEcho
  split
  · next e he =>
    have hp : (s.port p).st ≠ .off := fun hoff => by
      obtain ⟨-, -, -, hnone, -⟩ := hs.quiet p hoff
      simp [hnone] at he
    exact s.portsKept_launch_withPort _ hp rfl rfl
  · exact .refl s

/-- What the arbiter chooses of the CONTINUE packets is one that waits. -/
theorem mem_conts_of_earliest {p : Port} {s : State} {k : Packet}
    (h : earliest (s.claims p) = some (.continuation k)) : k ∈ (s.port p).conts := by
  obtain ⟨t, ht⟩ := earliest_mem h
  simp only [claims, List.mem_append, List.mem_map, List.mem_flatMap] at ht
  obtain (⟨k', hk', heq⟩ | ⟨e, -, he⟩) | hsched := ht
  · simp only [Prod.mk.injEq, Claim.continuation.injEq] at heq
    exact heq.2 ▸ hk'
  · simp only [eventClaim] at he
    split at he
    · obtain ⟨d, -, hd⟩ := List.mem_filterMap.mp he
      split at hd
      · split at hd <;> simp at hd
      · cases hd
    · cases he
  · split at hsched
    · split at hsched <;> simp at hsched
    · cases hsched

theorem portsKept_grant {s : State} (hs : s.portsFit) (p : Port) : PortsKept s (s.grant p) := by
  unfold grant
  split
  · split
    · next c hc =>
      unfold startClaim
      split
      · next k =>
        refine s.portsKept_startContinuation (st_ne_off_of_conts hs (k := k) ?_)
        unfold chooseClaim at hc
        split at hc
        · next hearliest => exact mem_conts_of_earliest (hearliest.trans hc)
        · split at hc
          · cases hc
          · split at hc <;> cases hc
      · exact portsKept_startEvent hs p _
      · exact s.portsKept_startCue p
      · exact portsKept_startNeutral hs p
      · exact portsKept_startEcho hs p
    · exact .refl s
  · exact .refl s

theorem portsKept_finishLines {s : State} (hs : s.portsFit) : PortsKept s s.finishLines := by
  have hexpire := s.portsKept_expireAll
  have hvision := portsKept_grant (hexpire.portsFit hs) .vision
  have hsound := portsKept_grant ((hexpire.trans hvision).portsFit hs) .sound
  have hcab := portsKept_grant (((hexpire.trans hvision).trans hsound).portsFit hs) .cab
  exact ((hexpire.trans hvision).trans hsound).trans hcab

theorem portsKept_kick : PortsKept s s.kick := .of_ports_eq (by simp) (by simp) (by simp)

/-! #### Ends and interruptions -/

theorem st_ne_off_of_inFlight {s : State} (hs : s.portsFit) {p : Port} {fl : InFlight}
    (h : (s.port p).inFlight = some fl) : (s.port p).st ≠ .off := fun hoff => by
  obtain ⟨hnone, -⟩ := hs.quiet p hoff
  simp [hnone] at h

theorem portsKept_completePacket {s : State} (hs : s.portsFit) (p : Port) :
    PortsKept s (s.completePacket p) := by
  unfold completePacket
  split
  · exact .refl s
  · next fl hfl =>
    have hp := st_ne_off_of_inFlight hs hfl
    have hfree : PortsKept s (s.withPort p { s.port p with inFlight := none }) :=
      .withPort (.of_busy hp rfl Iff.rfl)
    split
    · exact .withPort (.of_busy hp rfl Iff.rfl)
    · split
      · exact hfree.trans ((portsKept_mapDest _ _ p fun _ => Destination.placed_send).trans
          (portsKept_settle _))
      · exact hfree
    all_goals exact hfree

theorem portsKept_interrupt {s : State} (hs : s.portsFit) (p : Port) : PortsKept s (s.interrupt p) := by
  unfold interrupt
  split
  · exact .refl s
  · next fl hfl =>
    have hp := st_ne_off_of_inFlight hs hfl
    have hport {b : BoardPort} (hst : b.st = (s.port p).st) (hsched : b.sched = (s.port p).sched) :
        PortsKept s (s.withPort p b) := .withPort (.of_busy hp hst (by rw [hsched]))
    have hfree := hport (b := { s.port p with inFlight := none }) rfl rfl
    split
    case h_3 =>
      split
      · exact hfree.trans (portsKept_mapDest _ _ p fun _ => Destination.placed_interrupt)
      · exact hfree
    all_goals
      dsimp only
      try split
      all_goals exact hport rfl rfl

theorem portsKept_cut (p : Port) : PortsKept s (s.cut p) :=
  .withPort ⟨rfl, Iff.rfl, fun h hoff => by
    obtain ⟨-, h2, h3, h4, h5, h6, h7⟩ := h hoff
    exact ⟨rfl, h2, h3, h4, h5, h6, h7⟩⟩

theorem portsKept_cutEvent (p : Port) : PortsKept s (s.cutEvent p) := by
  unfold cutEvent
  split
  · split
    · exact s.portsKept_cut p
    · exact .refl s
  · exact .refl s

/-! #### Hub states -/

/-- Between hub states that deliver CUE packets, and between those that do not, the ports stay in agreement. -/
theorem portsFit_of_ctrl {s t : State} (hs : s.portsFit) (hports : t.ports = s.ports)
    (hqueue : t.queue = s.queue) (hdelivers : t.deliversCues = s.deliversCues)
    (hsetup : t.ctrl.st ≠ .setup) : t.portsFit := by
  have hport : ∀ p, t.port p = s.port p := fun p => by simp [State.port, hports]
  refine ⟨fun h => absurd h hsetup, fun p => ?_, fun p => ?_, ?_⟩
  · rw [hport]
    exact hs.quiet p
  · rw [hport, hdelivers]
    exact hs.schedulers p
  · rw [destinationsFit_iff, hqueue]
    refine ⟨fun h => absurd h hsetup, fun e he ha d hd => ?_⟩
    exact PortsKept.placed_of_st (fun p => by rw [hport]) (hs.destinations.2 e he ha d hd)

theorem portsFit_changeHub {s : State} (hs : s.portsFit) {new : HubState} (reason : HaltReason) (f : Nat)
    (cause : StateCause) (hold : s.ctrl.st ∈ [.armed, .rampIn, .live, .rampOut, .paused])
    (hnew : new ∈ [.armed, .rampIn, .live, .rampOut, .paused]) :
    (s.changeHub new reason f cause).portsFit := by
  refine portsFit_of_ctrl hs (by simp) (by simp) ?_ ?_
  · have hdelivers {u : State} (h : u.ctrl.st ∈ [.armed, .rampIn, .live, .rampOut, .paused]) :
        u.deliversCues = true := by
      unfold deliversCues
      split <;> simp_all
    rw [hdelivers hold, hdelivers (by simpa using hnew)]
  · rw [changeHub_ctrl]
    rintro rfl
    simp at hnew

theorem portsKept_snapshotConditions : PortsKept s s.snapshotConditions :=
  .of_ports_eq (by simp) (by simp) (by simp)

theorem portsFit_enterPaused {s : State} (hs : s.portsFit)
    (hst : s.ctrl.st ∈ [.armed, .rampIn, .live, .rampOut, .paused]) (cause : StateCause) :
    (s.enterPaused cause).portsFit := by
  have hchange := portsFit_changeHub (new := .paused) hs s.ctrl.reason 0 cause hst (by simp)
  have hcut := ((portsKept_cutEvent _ .vision).trans (portsKept_cutEvent _ .sound)).trans
    (portsKept_cutEvent (((s.changeHub .paused s.ctrl.reason 0 cause).cutEvent .vision).cutEvent .sound)
      .cab)
  have hflush := hcut.trans (portsKept_flushEvents _)
  exact (hflush.trans (portsKept_snapshotConditions _)).portsFit hchange

theorem portsFit_enterMotion {s : State} (hs : s.portsFit)
    (hst : s.ctrl.st ∈ [.armed, .rampIn, .live, .rampOut, .paused]) (cause : StateCause) :
    (s.enterMotion cause).portsFit := by
  unfold enterMotion
  split
  all_goals exact portsFit_changeHub hs _ _ _ hst (by simp)

/-- What HALTED entry makes of a port (R33). -/
theorem enterHalted_port (reason : HaltReason) (cause : StateCause) (p : Port) :
    (s.enterHalted reason cause).port p =
      ((s.changeHub .halted reason 0 cause).haltPort p).port p := by
  have hhalt (u : State) :
      (((u.haltPort .vision).haltPort .sound).haltPort .cab).port p = (u.haltPort p).port p := by
    cases p <;> rfl
  have hflush (u : State) : u.flushEvents.port p = u.port p := by simp [State.port]
  exact (hflush _).trans (hhalt _)

theorem portsFit_enterHalted {s : State} (hs : s.portsFit) (reason : HaltReason) (cause : StateCause) :
    (s.enterHalted reason cause).portsFit := by
  have hport (p : Port) : ((s.enterHalted reason cause).port p).st = (s.port p).st ∧
      ((s.enterHalted reason cause).port p).sched = none ∧
      ((s.port p).quietWhenOff → ((s.enterHalted reason cause).port p).quietWhenOff) := by
    have hsame : (s.changeHub .halted reason 0 cause).port p = s.port p := by simp [State.port]
    rw [enterHalted_port]
    simp only [haltPort, hsame, withPort_port_same]
    refine ⟨trivial, trivial, fun h hoff => ?_⟩
    have hst : (s.port p).st = .off := hoff
    obtain ⟨-, -, h3, h4, -, h6, h7⟩ := h hst
    exact ⟨rfl, rfl, by simp [hst, h3], h4, rfl, h6, h7⟩
  have hst : (s.enterHalted reason cause).ctrl.st = .halted := by simp
  refine ⟨fun h => by simp at h, fun p => (hport p).2.2 (hs.quiet p), fun p => ?_, ?_⟩
  · simp [(hport p).2.1, deliversCues]
  · refine ⟨fun h => by simp at h, fun e he ha d hd => ?_⟩
    refine Destination.placed_of_not_pending ?_
    have hqueue : (s.enterHalted reason cause).queue =
        (s.queue.map (Entry.mapActive fun _ => Destination.drop)).map Entry.close := by
      simp [enterHalted, flushEvents]
    rw [hqueue] at he
    simp only [List.map_map, List.mem_map, Function.comp_apply] at he
    obtain ⟨x, hx, rfl⟩ := he
    have hactive := Entry.active_of_close ha
    rw [Entry.mapActive_of_active (by simpa using hactive)] at hd
    simp only [Entry.close_frame, List.mem_map] at hd
    obtain ⟨d', -, rfl⟩ := hd
    unfold Destination.drop
    split
    · rfl
    · next h => simpa using h

end State
end Sys2Proof.Machine

/-! ### Ports, schedulers and destinations: entries of states, frame starts, reports, requests -/

namespace Sys2Proof.Machine

namespace BoardPort

/-- The port as SETUP entry leaves it (R96). -/
def closed (b : BoardPort) : BoardPort :=
  if b.st = .off then b.withLatencies
  else
    { b with
      st := .off
      inFlight := none
      conts := []
      neutral := none
      echoDue := none
      sched := none
      inbound := none
      openedAt := none
      window := []
      echo := { Reset.echo with next := b.echo.next } }.withLatencies

/-- The port as ARM leaves it: PROBING with its next echo issued when it is enabled (R24, R110). -/
def opened (now : Instant) (b : BoardPort) : BoardPort :=
  if b.cfg.enable then { b with st := .probing, inbound := none, openedAt := some now }.issueEcho else b

/-- The port as its loss leaves it (R114). -/
def lost (b : BoardPort) : BoardPort :=
  { b with
    st := .lost
    inFlight := none
    conts := []
    neutral := none
    echoDue := none
    sched := none }.issueEcho

@[simp] theorem issueEcho_frame (b : BoardPort) :
    b.issueEcho.st = b.st ∧ b.issueEcho.cfg = b.cfg ∧ b.issueEcho.inFlight = b.inFlight ∧
    b.issueEcho.conts = b.conts ∧ b.issueEcho.neutral = b.neutral ∧ b.issueEcho.sched = b.sched ∧
    b.issueEcho.wait = b.wait ∧ b.issueEcho.abort = b.abort ∧ b.issueEcho.rxErrors = b.rxErrors ∧
    b.issueEcho.inbound = b.inbound ∧ b.issueEcho.openedAt = b.openedAt ∧
    b.issueEcho.window = b.window ∧ b.issueEcho.latCue = b.latCue ∧
    b.issueEcho.latEvent = b.latEvent ∧ b.issueEcho.skipCount = b.skipCount ∧
    b.issueEcho.partialCount = b.partialCount := by
  unfold issueEcho
  split <;> simp

theorem quietWhenOff_closed {b : BoardPort} (h : b.quietWhenOff) :
    b.closed.st = .off ∧ b.closed.sched = none ∧ b.closed.quietWhenOff := by
  unfold closed
  split
  · next hoff =>
    obtain ⟨-, -, -, -, hsched, -, -⟩ := h hoff
    exact ⟨hoff, hsched, (Kept.withLatencies b).quiet h⟩
  · exact ⟨rfl, rfl, fun _ => ⟨rfl, rfl, rfl, rfl, rfl, rfl, rfl⟩⟩

@[simp] theorem lost_st (b : BoardPort) : b.lost.st = .lost := by simp [lost]
@[simp] theorem lost_sched (b : BoardPort) : b.lost.sched = none := by simp [lost]

end BoardPort

/-- What a loss leaves is on the ports that stay as they were (R150). -/
theorem Destination.placed_dropOnLoss {s t : State} {p : Port} {d : Destination}
    (hother : ∀ q, q ≠ p → (s.port q).st = .running → (t.port q).st = .running) (h : d.placed s) :
    (d.dropOnLoss p).placed t := by
  unfold dropOnLoss
  split
  · next l hl =>
    split
    · trivial
    · next hp =>
      simp only [placed, hl] at h ⊢
      exact hother _ hp h
  · next l hl =>
    split
    · trivial
    · next hp =>
      simp only [placed, hl] at h ⊢
      exact hother _ hp h
  · next hdue hflight =>
    unfold placed
    split
    · next hl => exact absurd hl (hdue _)
    · next hl => exact absurd hl (hflight _)
    all_goals trivial

namespace State

variable (s : State)

@[simp] theorem withPort_self (p : Port) : s.withPort p (s.port p) = s := by
  cases p <;> rfl

theorem port_of_ports_eq {s t : State} (h : t.ports = s.ports) (p : Port) : t.port p = s.port p := by
  unfold State.port
  rw [h]

theorem closePort_eq (p : Port) : s.closePort p = s.withPort p (s.port p).closed := by
  unfold closePort BoardPort.closed
  dsimp only
  split <;> rfl

theorem openPort_eq (p : Port) : s.openPort p = s.withPort p ((s.port p).opened s.now) := by
  unfold openPort BoardPort.opened
  dsimp only
  split
  · rfl
  · simp

theorem losePort_eq (p : Port) :
    s.losePort p =
      (((s.withPort p (s.port p).lost).mapDests fun _ => Destination.dropOnLoss p).settle).notePort p
        (s.port p).st .echoMissed := rfl

/-- What SETUP entry makes of a port. -/
@[simp] theorem enterSetup_port (p : Port) : s.enterSetup.port p = (s.port p).closed := by
  have hclose (u : State) (hu : u.ports = s.ports) :
      (((u.closePort .vision).closePort .sound).closePort .cab).port p = (s.port p).closed := by
    simp only [closePort_eq, withPort_port, port_of_ports_eq hu]
    cases p <;> rfl
  have hnote (u : State) (old : Ports) (cause : PortCause) :
      (u.notePorts old cause).port p = u.port p := port_of_ports_eq (by simp) p
  exact (hnote _ _ _).trans (hclose _ (by simp))

theorem portsFit_enterSetup {s : State} (hs : s.portsFit) : s.enterSetup.portsFit := by
  have hport (p : Port) := BoardPort.quietWhenOff_closed (hs.quiet p)
  refine ⟨fun _ p => ?_, fun p => ?_, fun p => ?_, ?_⟩
  · rw [enterSetup_port]
    exact (hport p).1
  · rw [enterSetup_port]
    exact (hport p).2.2
  · rw [enterSetup_port, (hport p).1, (hport p).2.1]
    simp
  · simp [destinationsFit_iff]

/-- The ports that ARM opens, before their lines finish. -/
theorem openPorts_port (p : Port) :
    (((s.openPort .vision).openPort .sound).openPort .cab).port p = (s.port p).opened s.now := by
  simp only [openPort_eq, withPort_port]
  cases p <;> rfl

/-- The hub as ARM leaves it, before its lines finish. -/
def armed (s : State) : State :=
  let u := (s.changeHub .armed .none 0 .command)
  let u := (u.withClock u.clock.arm).noteClock s.clock.st .arm
  let u :=
    u.withRoutes (mapTable (fun r => if r.port.isSome then { r with last := r.rest } else r) u.routes)
  let u := u.withGens (mapTable Generator.arm u.gens)
  (((u.openPort .vision).openPort .sound).openPort .cab).notePorts s.ports .arm

theorem enterArmed_eq : s.enterArmed = s.armed.finishLines := by
  simp [enterArmed, armed]

@[simp] theorem armed_port (p : Port) : s.armed.port p = (s.port p).opened s.now := by
  have hopen (u : State) (hports : u.ports = s.ports) (hnow : u.now = s.now) :
      (((u.openPort .vision).openPort .sound).openPort .cab).port p = (s.port p).opened s.now := by
    rw [openPorts_port, port_of_ports_eq hports, hnow]
  have hnote (u : State) (old : Ports) (cause : PortCause) :
      (u.notePorts old cause).port p = u.port p := port_of_ports_eq (by simp) p
  exact (hnote _ _ _).trans (hopen _ (by simp) (by simp [State.now, Clock.arm]))

theorem portsFit_armed {s : State} (hs : s.portsFit) (hst : s.ctrl.st = .setup) : s.armed.portsFit := by
  have hsched (p : Port) : (s.port p).sched = none := by
    obtain ⟨-, -, -, -, hnone, -⟩ := hs.quiet p (hs.setup hst p)
    exact hnone
  have hopened (p : Port) : (s.armed.port p).st ≠ .running ∧ (s.armed.port p).sched = none ∧
      (s.armed.port p).quietWhenOff := by
    have hoff := hs.setup hst p
    rw [armed_port]
    unfold BoardPort.opened
    split
    · refine ⟨by simp, by simp [hsched p], fun h => by simp at h⟩
    · exact ⟨by simp [hoff], hsched p, hs.quiet p⟩
  have harmed : s.armed.ctrl.st = .armed := by simp [armed]
  have hqueue : s.armed.queue = [] := by simpa [armed] using hs.destinations.1 hst
  refine ⟨fun h => by simp [harmed] at h, fun p => (hopened p).2.2, fun p => ?_, ?_⟩
  · obtain ⟨hst', hsched', -⟩ := hopened p
    simp only [hst', hsched', ne_eq, not_true_eq_false, false_and]
  · simp [destinationsFit_iff, hqueue]

theorem portsFit_enterArmed {s : State} (hs : s.portsFit) (hst : s.ctrl.st = .setup) :
    s.enterArmed.portsFit := by
  rw [enterArmed_eq]
  have harmed := portsFit_armed hs hst
  exact (portsKept_finishLines harmed).portsFit harmed

/-! #### Frame starts -/

theorem portsKept_withCtrl {c : Controller} (h : c.st = s.ctrl.st) : PortsKept s (s.withCtrl c) :=
  .of_ports_eq h rfl rfl

theorem portsFit_rampStep {s : State} (hs : s.portsFit) : s.rampStep.portsFit := by
  by_cases hin : s.ctrl.st = .rampIn
  · rw [rampStep_of_rampIn hin]
    split
    · exact portsFit_changeHub hs _ _ _ (by simp [hin]) (by simp)
    · exact (s.portsKept_withCtrl (by simp)).portsFit hs
  by_cases hout : s.ctrl.st = .rampOut
  · rw [rampStep_of_rampOut hout]
    split
    · exact portsFit_enterPaused hs (by simp [hout]) _
    · exact (s.portsKept_withCtrl (by simp)).portsFit hs
  · rwa [rampStep_of_steady hin hout]

theorem portsFit_clockLost {s : State} (hs : s.portsFit) : s.clockLost.portsFit := by
  obtain h | h := s.clockLost_eq
  · rw [h]
    exact portsFit_enterHalted hs _ _
  · rwa [h]

theorem portsFit_controllerFrameStart (expired : Bool) {s : State} (hs : s.portsFit) :
    (s.controllerFrameStart expired).portsFit := by
  unfold controllerFrameStart
  split
  · split
    · exact portsFit_rampStep (portsFit_clockLost hs)
    · exact portsFit_clockLost (portsFit_rampStep hs)
  · exact portsFit_rampStep hs

theorem portsKept_notePort (p : Port) (left : PortState) (cause : PortCause) :
    PortsKept s (s.notePort p left cause) := .of_ports_eq (by simp) (by simp) (by simp)

/-- A loss takes the port out of RUNNING, with its scheduler and what was due there (R114, R150). -/
theorem portsFit_losePort {s : State} (hs : s.portsFit) {p : Port} (hp : (s.port p).st = .running) :
    (s.losePort p).portsFit := by
  have hsetup : s.ctrl.st ≠ .setup := fun h => by simpa [hp] using hs.setup h p
  have hport (q : Port) : ((s.withPort p (s.port p).lost).mapDests
      fun _ => Destination.dropOnLoss p).port q = if q = p then (s.port p).lost else s.port q := by
    rw [← withPort_port]
    exact port_of_ports_eq (by simp) q
  have hdropped : ((s.withPort p (s.port p).lost).mapDests fun _ => Destination.dropOnLoss p).portsFit := by
    refine ⟨fun h => absurd h hsetup, fun q => ?_, fun q => ?_, ?_⟩
    · rw [hport]
      split
      · exact fun h => by simp at h
      · exact hs.quiet q
    · rw [hport]
      split
      · simp
      · exact hs.schedulers q
    · refine ⟨fun h => absurd h hsetup, fun e he ha d hd => ?_⟩
      simp only [mapDests_queue, withPort_queue, List.mem_map] at he
      obtain ⟨x, hx, rfl⟩ := he
      have hactive : x.st = .active := by simpa using ha
      rw [Entry.mapActive_of_active hactive] at hd
      obtain ⟨d', hd', rfl⟩ := List.mem_map.mp hd
      refine Destination.placed_dropOnLoss (fun q hq hrunning => ?_)
        (hs.destinations.2 x hx hactive d' hd')
      rwa [hport, if_neg hq]
  rw [losePort_eq]
  exact ((portsKept_settle _).trans (portsKept_notePort _ _ _ _)).portsFit hdropped

theorem portsFit_portLost (p : Port) {s : State} (hs : s.portsFit) : (s.portLost p).portsFit := by
  obtain h | h := portLost_eq p s
  · rw [h]
    exact portsFit_enterHalted hs _ _
  · rwa [h]

theorem portsFit_echoFrameStart (p : Port) {s : State} (hs : s.portsFit) :
    (s.echoFrameStart p).portsFit := by
  have haged : (s.port p).Kept ((s.port p).ageOpening s.now).ageEcho :=
    (BoardPort.Kept.ageOpening _ _).trans (.ageEcho _)
  unfold echoFrameStart
  dsimp only
  split
  · next hlost =>
    have hrunning : (s.port p).st = .running := by
      simp only [BoardPort.goesLost, Bool.and_eq_true, decide_eq_true_eq] at hlost
      exact hlost.1.1
    refine portsFit_portLost p (portsFit_losePort ((PortsKept.withPort haged).portsFit hs) ?_)
    rw [withPort_port_same, haged.st, hrunning]
  · exact (PortsKept.withPort (haged.trans (.frameStartIssue _))).portsFit hs

theorem portsKept_schedulerFrameStart (r : Bool) (p : Port) :
    PortsKept s (s.schedulerFrameStart r p) := by
  unfold schedulerFrameStart
  split
  · exact .refl s
  · next hsc =>
    split
    · exact .withPort (.takeFirst _ (by simp [hsc]))
    · exact .withPort (.reform _ _)

theorem portsFit_deliveryFrameStart (r : Bool) {s : State} (hs : s.portsFit) :
    (s.deliveryFrameStart r).portsFit := by
  have hsched := ((s.portsKept_schedulerFrameStart r .vision).trans
    (portsKept_schedulerFrameStart _ r .sound)).trans (portsKept_schedulerFrameStart _ r .cab)
  have hevents := hsched.portsFit hs
  have hfinish {u : State} (hu : u.portsFit) : u.finishLines.portsFit :=
    (portsKept_finishLines hu).portsFit hu
  unfold deliveryFrameStart
  dsimp only
  split
  · exact hfinish ((portsKept_flushUnsent _).portsFit hevents)
  · exact hfinish ((portsKept_refreshEvents _ _).portsFit hevents)

theorem portsFit_frameStart {s : State} (hs : s.portsFit) : s.frameStart.portsFit := by
  have hsame {u v : State} (h : u.portsFit) (hhub : v.ctrl.st = u.ctrl.st) (hqueue : v.queue = u.queue)
      (hports : v.ports = u.ports) : v.portsFit := (PortsKept.of_ports_eq hhub hqueue hports).portsFit h
  refine frameStart_keeps (P := State.portsFit) ?_ (hsame hs (by simp) (by simp) (by simp))
  exact
    { hand := fun t h => hsame h (by simp) (by simp) (by simp)
      controller := fun t h => portsFit_controllerFrameStart _ h
      channels := fun t h => hsame h (by simp) (by simp) (by simp)
      gens := fun r t h => hsame h (by simp) (by simp) (by simp)
      echo := fun p t h => portsFit_echoFrameStart p h
      delivery := fun r t h => portsFit_deliveryFrameStart r h
      finish := fun t h => (portsKept_finishLines h).portsFit h
      choice := fun t h => hsame h (by simp) (by simp) (by simp)
      kick := fun t h => hsame h (by simp) (by simp) (by simp) }

/-! #### Reports and requests -/

theorem portsKept_relatency (p : Port) : PortsKept s (s.relatency p) := by
  have hport : PortsKept s (s.withPort p
      (if (s.port p).withLatencies.latCue = (s.port p).latCue then (s.port p).withLatencies
        else (s.port p).withLatencies.reform s.clock)) := by
    refine .withPort ?_
    split
    · exact .withLatencies _
    · exact (BoardPort.Kept.withLatencies _).trans (.reform _ _)
  unfold relatency
  dsimp only
  split
  · exact hport
  · exact hport.trans (portsKept_refreshEvents _ _)

theorem portsKept_reguard (p : Port) : PortsKept s (s.reguard p) :=
  (PortsKept.withPort (.reform _ _)).trans (portsKept_refreshEvents _ _)

theorem destinationsFit_of_running {s t : State} (hhub : t.ctrl.st = s.ctrl.st) (hqueue : t.queue = s.queue)
    (hport : ∀ p, (s.port p).st = .running → (t.port p).st = .running) (hs : s.destinationsFit) :
    t.destinationsFit := by
  rw [destinationsFit_iff] at hs ⊢
  rw [hhub, hqueue]
  refine ⟨hs.1, fun e he ha d hd => ?_⟩
  have hplaced := hs.2 e he ha d hd
  unfold Destination.placed at hplaced ⊢
  split
  · next hdue => exact hport _ (by simpa only [hdue] using hplaced)
  · next hflight => exact hport _ (by simpa only [hflight] using hplaced)
  all_goals trivial

/-- One port that is not in OFF enters RUNNING, or stays there; the others are kept. -/
theorem portsFit_of_running {s t : State} (hs : s.portsFit) {p : Port} (hbusy : (s.port p).st ≠ .off)
    (hhub : t.ctrl.st = s.ctrl.st) (hother : ∀ q, q ≠ p → (s.port q).Kept (t.port q))
    (hst : (t.port p).st = .running) (hsched : (t.port p).sched ≠ none ↔ s.deliversCues = true)
    (hdests : t.destinationsFit) : t.portsFit := by
  have hsetup : t.ctrl.st ≠ .setup := fun h => hbusy (hs.setup (hhub ▸ h) p)
  have hdelivers : t.deliversCues = s.deliversCues := by simp [deliversCues, hhub]
  refine ⟨fun h => absurd h hsetup, fun q => ?_, fun q => ?_, hdests⟩
  · by_cases hq : q = p
    · exact fun h => by simp [hq, hst] at h
    · exact (hother q hq).quiet (hs.quiet q)
  · by_cases hq : q = p
    · rw [hq, hsched, hdelivers, hst]
      simp
    · rw [(hother q hq).st, hdelivers, ← hs.schedulers q]
      exact not_congr (hother q hq).sched

/-- A port that answers its echo has been opened (R96). -/
theorem st_ne_off_of_matching {s : State} (hs : s.portsFit) {p : Port} {number : Word} {sent : Instant}
    (h : (s.port p).echo.matching number = some sent) : (s.port p).st ≠ .off := fun hoff => by
  obtain ⟨-, -, -, -, -, hnone, -⟩ := hs.quiet p hoff
  simp [EchoRecord.matching, hnone] at h

/-- The scheduler becomes ACTIVE where the port was not RUNNING and the hub delivers CUE packets (R126). -/
theorem portsFit_ran {s : State} (hs : s.portsFit) {p : Port} (hbusy : (s.port p).st ≠ .off)
    {b : BoardPort} (hst : b.st = .running) (hsched : b.sched = (s.port p).sched) :
    (if (s.port p).st = .running then (s.withPort p b).relatency p
      else ((s.withPort p b).relatency p).enterRunning p).portsFit := by
  have hrelat := portsKept_relatency (s.withPort p b) p
  generalize (s.withPort p b).relatency p = u at hrelat
  have hhub : u.ctrl.st = s.ctrl.st := hrelat.hub
  have hdests : u.destinationsFit := by
    refine hrelat.dests (destinationsFit_of_running (s := s) (by simp) (by simp) (fun q hq => ?_)
      hs.destinations)
    rw [withPort_port]
    split
    · exact hst
    · exact hq
  have hother (q : Port) (hq : q ≠ p) : (s.port q).Kept (u.port q) := by
    simpa [withPort_port, hq] using hrelat.port q
  have hself : b.Kept (u.port p) := by simpa using hrelat.port p
  have hust : (u.port p).st = .running := hself.st.trans hst
  have hkept : (u.port p).sched ≠ none ↔ (s.port p).sched ≠ none := by
    rw [← hsched]
    exact not_congr hself.sched
  have hidle (h : ¬((s.port p).st = .running ∧ s.deliversCues = true)) : (u.port p).sched = none := by
    rw [← hs.schedulers p, ← hkept] at h
    exact not_not.mp h
  split
  · next hwas =>
    refine portsFit_of_running hs hbusy hhub hother hust ?_ hdests
    rw [hkept, hs.schedulers p]
    simp [hwas]
  · next hwas =>
    have hdelivers : u.deliversCues = s.deliversCues := by simp [deliversCues, hhub]
    have hnone := hidle fun h => hwas h.1
    unfold enterRunning
    split
    · next hdel =>
      rw [hdelivers] at hdel
      have hactive : ((u.port p).activate u.clock).st = .running := by
        simpa [BoardPort.activate, BoardPort.takeFirst] using hust
      refine portsFit_of_running hs hbusy hhub (fun q hq => ?_) (by simpa using hactive)
        (by simp [BoardPort.activate, BoardPort.takeFirst, hdel])
        (destinationsFit_of_running (s := u) rfl rfl (fun q hq => ?_) hdests)
      · rw [withPort_port, if_neg hq]
        exact hother q hq
      · rw [withPort_port]
        split
        · exact hactive
        · exact hq
    · next hdel =>
      rw [hdelivers] at hdel
      exact portsFit_of_running hs hbusy hhub hother hust (by simp [hnone, hdel]) hdests

theorem portsFit_takeEchoReply {s : State} (hs : s.portsFit) (p : Port) (arrival : Instant)
    (number delay turnaround : Word) : (s.takeEchoReply p arrival number delay turnaround).portsFit := by
  unfold takeEchoReply
  dsimp only
  split
  · exact hs
  · next sent hsent =>
    have hran := portsFit_ran hs (st_ne_off_of_matching hs hsent)
      (b := { s.port p with
        st := .running, echo := (s.port p).echo.answered sent arrival delay turnaround }) rfl rfl
    have hnote := (portsKept_notePort _ p (s.port p).st .echoAnswered).portsFit hran
    have hfinish := (portsKept_finishLines hnote).portsFit hnote
    exact (portsKept_kick _).portsFit hfinish

/-! #### The event queue -/

/-- The queue loses entries, or its entries lose destinations. -/
theorem portsFit_of_queue {s t : State} (hs : s.portsFit) (hhub : t.ctrl.st = s.ctrl.st)
    (hports : t.ports = s.ports) (hsub : ∀ e ∈ t.queue, e ∈ s.queue) : t.portsFit := by
  refine (PortsKept.of_queue hhub hports (fun h => ?_) fun h e he => h e (hsub e he)).portsFit hs
  rw [List.eq_nil_iff_forall_not_mem]
  intro e he
  simpa [h] using hsub e he

theorem portsKept_settleEntry (e : Entry) : PortsKept s (s.settleEntry e) := by
  refine .of_queue (by simp) (by simp) (fun h => by simp [settleEntry_queue, h]) fun h x hx ha d hd => ?_
  rw [settleEntry_queue] at hx
  obtain ⟨y, hy, rfl⟩ := List.mem_map.mp hx
  split at ha
  · next hc =>
    rw [if_pos hc] at hd
    exact h y hy (Entry.active_of_close ha) d (by simpa using hd)
  · next hc =>
    rw [if_neg hc] at hd
    exact h y hy ha d hd

/-- An admitted entry is WAITING, or released as its ports stand (R143, R144). -/
theorem portsFit_admitEntry {s : State} (hs : s.portsFit) (q : PostRequest) (f : Frame) (used : Nat)
    (hst : s.admitsEvents = true) : (s.admitEntry q f used).portsFit := by
  have hsetup : s.ctrl.st ≠ .setup := fun h => by simp [admitsEvents, h] at hst
  have hposted : ∀ d ∈ (posted q f used s).dests, d.placed s := by
    intro d hd
    simp only [posted, newEntry, List.mem_map] at hd
    obtain ⟨d', ⟨p, -, rfl⟩, rfl⟩ := hd
    exact Destination.placed_releaseIfReached trivial
  have hinsert : (s.withQueue (insertEntry (posted q f used s) s.queue)).portsFit := by
    refine ⟨hs.setup, hs.quiet, hs.schedulers, fun h => absurd h hsetup, fun e he ha d hd => ?_⟩
    obtain rfl | he := mem_insertEntry.mp he
    · exact hposted d hd
    · exact hs.destinations.2 e he ha d hd
  rw [admitEntry_eq]
  split
  · exact hinsert
  · have hsettled := (portsKept_settleEntry _ (posted q f used s)).portsFit hinsert
    exact (portsKept_finishLines hsettled).portsFit hsettled

theorem portsFit_cancel {s : State} (hs : s.portsFit) (tag : Byte) (e : Entry) :
    ((s.mapDests (fun x d => if x.tag = tag then d.drop else d)).settleEntry e).portsFit :=
  ((s.portsKept_mapDests fun x d h => by
    split
    · exact Destination.placed_drop h
    · exact h).trans (portsKept_settleEntry _ e)).portsFit hs

end State

theorem Deed.keeps_portsFit {s t : State} (hd : Deed s t) (hs : s.portsFit) : t.portsFit := by
  have hsame {u : State} (hhub : u.ctrl.st = s.ctrl.st) (hqueue : u.queue = s.queue)
      (hports : u.ports = s.ports) : u.portsFit := (State.PortsKept.of_ports_eq hhub hqueue hports).portsFit hs
  have hport {p : Port} {b : BoardPort} (h : (s.port p).Kept b) : (s.withPort p b).portsFit :=
    (State.PortsKept.withPort h).portsFit hs
  cases hd
  case frameStart => exact State.portsFit_frameStart hs
  case ramps q => exact hsame rfl rfl rfl
  case enterSetup => exact State.portsFit_enterSetup hs
  case enterArmed hst => exact State.portsFit_enterArmed hs hst
  case go hst _ => exact State.portsFit_enterMotion hs (by simp [hst]) _
  case resume cause hst _ => exact State.portsFit_enterMotion hs (by simp; tauto) _
  case rampOut hst => exact State.portsFit_changeHub hs _ _ _ (by simp; tauto) (by simp)
  case pause hst => exact State.portsFit_enterPaused hs (by simp; tauto) _
  case halt => exact State.portsFit_enterHalted hs _ _
  case writeRoute => exact hsame rfl rfl rfl
  case config p m => exact hport (.of_eq rfl rfl rfl rfl rfl Iff.rfl rfl rfl)
  case relatency p => exact (s.portsKept_relatency p).portsFit hs
  case reguard p => exact (s.portsKept_reguard p).portsFit hs
  case finishLines => exact (State.portsKept_finishLines hs).portsFit hs
  case enqueue q f used hst _ _ _ => exact State.portsFit_admitEntry hs q f used hst
  case cancel tag e _ _ => exact State.portsFit_cancel hs tag _
  case collect n =>
    exact State.portsFit_of_queue hs rfl rfl fun e he => (State.dropDone_sublist n s.queue).subset he
  case beat p =>
    refine hport ⟨rfl, Iff.rfl, fun h hoff => ?_⟩
    obtain ⟨h1, h2, h3, h4, h5, h6, h7⟩ := h hoff
    exact ⟨by simp [h1], h2, h3, h4, h5, h6, h7⟩
  case complete p => exact (State.portsKept_completePacket hs p).portsFit hs
  case due p sc hsc => exact hport (.of_scheduled (by simp [hsc]) rfl (by simp))
  case releaseDest tag p =>
    exact ((s.portsKept_mapDest tag p fun _ => Destination.placed_release).trans
      (State.portsKept_settle _)).portsFit hs
  case partials p keep n => exact hport (State.kept_filterConts keep n _)
  case missDest tag p =>
    refine ((s.portsKept_mapDest tag p fun d h => ?_).trans (State.portsKept_settle _)).portsFit hs
    split
    · trivial
    · exact h
  case skip p sc hsc => exact (s.portsKept_skipOne hsc).portsFit hs
  case skipPast p n => exact (s.portsKept_skipPast p n).portsFit hs
  case inbound p x => exact hport (.of_eq rfl rfl rfl rfl rfl Iff.rfl rfl rfl)
  case rxError p => exact hport (.of_eq rfl rfl rfl rfl rfl Iff.rfl rfl rfl)
  case echoReply p arrival number delay turnaround =>
    exact State.portsFit_takeEchoReply hs p arrival number delay turnaround
  case addError p e hst => exact hport (.of_busy (by simp [hst]) rfl Iff.rfl)
  case wait p level => exact hport (.of_eq rfl rfl rfl rfl rfl Iff.rfl rfl rfl)
  case abort p level => exact hport (.of_eq rfl rfl rfl rfl rfl Iff.rfl rfl rfl)
  case interrupt p => exact (State.portsKept_interrupt hs p).portsFit hs
  all_goals exact hsame (by simp) (by simp) (by simp)

theorem Act.keeps_portsFit {s t : State} (ha : Act s t) (h : s.portsFit) : t.portsFit := by
  cases ha with
  | deed hd => exact hd.keeps_portsFit h
  | reply r => exact (State.PortsKept.of_ports_eq (by simp) (by simp) (by simp)).portsFit h
  | sent => exact (State.PortsKept.of_ports_eq (by simp) (by simp) (by simp)).portsFit h
  | framer fr => exact (State.PortsKept.of_ports_eq (by simp) (by simp) (by simp)).portsFit h

/-- RESET asserted cuts what is on the lines. -/
theorem State.portsFit_assertReset {s : State} (hs : s.portsFit) : s.assertReset.portsFit := by
  have hcut := ((s.portsKept_cut .vision).trans (State.portsKept_cut _ .sound)).trans
    (State.portsKept_cut _ .cab)
  have hrest : PortsKept (((s.cut .vision).cut .sound).cut .cab) s.assertReset :=
    .of_ports_eq rfl rfl rfl
  exact (hcut.trans hrest).portsFit hs

/-- After reset every port is OFF and quiet. -/
theorem State.portsFit_powerUp (rate : LineRate) (s : State) : (s.powerUp rate).portsFit where
  setup _ p := by cases p <;> rfl
  quiet p _ := by cases p <;> exact ⟨rfl, rfl, rfl, rfl, rfl, rfl, rfl⟩
  schedulers p := by
    have hsched : ((s.powerUp rate).port p).sched = none := by cases p <;> rfl
    have hst : ((s.powerUp rate).port p).st = .off := by cases p <;> rfl
    simp [hsched, hst]
  destinations := ⟨fun _ => rfl, fun _ he => nomatch he⟩

end Sys2Proof.Machine

section
open Sys2Proof Sys2Proof.Machine

/-- Settles O59: no deed moves a port between its states but SETUP entry, ARM, a loss and an answered echo, and
the hub between states that deliver CUE packets and others but SETUP entry, ARM and HALTED entry. -/
theorem stepKeepsPortsInTheirStates : Obligations.StepKeepsPortsInTheirStates := by
  unfold Obligations.StepKeepsPortsInTheirStates
  intro s t hfit hstep
  refine step_keeps (fun _ _ => Act.keeps_portsFit) (fun s rate => s.portsFit_powerUp rate)
    (fun _ => State.portsFit_assertReset) ?_ hstep hfit
  intro s l h
  have hsame : State.PortsKept s { s with pending := l } := .of_ports_eq rfl rfl rfl
  exact hsame.portsFit h

end

/-! ### The rows of host records (11.1, 11.2) -/

namespace Sys2Proof.Machine

/-! #### What a payload's layout writes, its reader reads back -/

theorem word_of_bytes (w : Word) : w.extractLsb' 8 8 ++ w.extractLsb' 0 8 = w := by
  ext i hi
  simp only [BitVec.getElem_append, BitVec.getElem_extractLsb']
  split
  · simp [BitVec.getElem_eq_testBit_toNat, BitVec.getLsbD]
  · rw [show 8 + (i - 8) = i by omega]
    simp [BitVec.getElem_eq_testBit_toNat, BitVec.getLsbD]

theorem clockRequestOf_clockPayload (q : ClockRequest) : clockRequestOf (clockPayload q) = q := by
  simp [clockRequestOf, clockPayload, wordAt, byteAt, bytesOf, word_of_bytes]

theorem channelRequestOf_channelPayload (q : ChannelRequest) :
    channelRequestOf (channelPayload q) = q := by
  simp [channelRequestOf, channelPayload, wordAt, byteAt, bytesOf, word_of_bytes]

theorem routeRequestOf_routePayload (q : RouteRequest) : routeRequestOf (routePayload q) = q := by
  simp [routeRequestOf, routePayload, wordAt, byteAt, bytesOf, word_of_bytes]

theorem portRequestOf_portPayload (q : PortRequest) : portRequestOf (portPayload q) = q := by
  simp [portRequestOf, portPayload, wordAt, byteAt, bytesOf, word_of_bytes]

theorem generatorRequestOf_generatorPayload (q : GeneratorRequest) :
    generatorRequestOf (generatorPayload q) = q := by
  simp [generatorRequestOf, generatorPayload, wordAt, byteAt, bytesOf, word_of_bytes]

theorem postRequestOf_postPayload (q : PostRequest) : postRequestOf (postPayload q) = q := by
  simp [postRequestOf, postPayload, wordAt, byteAt, bytesOf, word_of_bytes]

theorem triggersRequestOf_triggersPayload (q : TriggersRequest) :
    triggersRequestOf (triggersPayload q) = q := by
  obtain ⟨mask, types⟩ := q
  have htypes : Vector.ofFn (fun i : Fin 16 => byteAt (triggersPayload ⟨mask, types⟩) (2 + i.val)) = types := by
    ext i hi
    have hlen : i < types.toList.length := by simpa using hi
    simp [triggersPayload, byteAt, bytesOf, Nat.add_comm 2 i, hi]
  simp only [triggersRequestOf, htypes]
  simp [triggersPayload, wordAt, byteAt, bytesOf, word_of_bytes]

/-- The pairs of a list, one after the other. -/
theorem getD_flatMap_pair {α : Type} (d : α) (xs : List (α × α)) (i : Nat) (h : i < xs.length) :
    (xs.flatMap fun c => [c.1, c.2]).getD (2 * i) d = xs[i].1 ∧
      (xs.flatMap fun c => [c.1, c.2]).getD (2 * i + 1) d = xs[i].2 := by
  induction xs generalizing i with
  | nil => simp at h
  | cons x xs ih =>
    cases i with
    | zero => simp
    | succ i =>
      have h' : i < xs.length := by simpa using h
      simpa [Nat.mul_succ] using ih i h'

theorem resumeRequestOf_resumePayload (q : ResumeRequest) :
    resumeRequestOf (resumePayload q) = q := by
  obtain ⟨mask, conditions⟩ := q
  have hconditions : Vector.ofFn (fun i : Fin 4 =>
      (byteAt (resumePayload ⟨mask, conditions⟩) (1 + 2 * i.val),
        byteAt (resumePayload ⟨mask, conditions⟩) (2 + 2 * i.val))) = conditions := by
    apply Vector.ext
    intro i hi
    have hpair := getD_flatMap_pair 0 conditions.toList i (by simpa using hi)
    simp only [Vector.getElem_ofFn, byteAt, resumePayload, Nat.add_comm 1, Nat.add_comm 2,
      List.getD_cons_succ]
    rw [hpair.1, hpair.2]
    simp
  simp only [resumeRequestOf, hconditions]
  simp [resumePayload, byteAt]

/-! #### A row is its record -/

theorem State.takeRecord_of_request {kind : Byte} (h0E : kind ≠ 0x0E) (h0F : kind ≠ 0x0F) (tag : Byte)
    (p : List Byte) (s : State) : s.takeRecord kind tag p = answer kind tag (State.judgeRequest kind p) s := by
  unfold State.takeRecord
  rw [if_neg h0E, if_neg h0F]

/-- A request of the right length goes to its owner. -/
theorem State.judgeRequest_of_length {kind : Byte} {n : Nat} (h : requestLength kind = some n)
    {p : List Byte} (hp : p.length = n) (s : State) : s.judgeRequest kind p = s.ownRequest kind p := by
  simp [State.judgeRequest, h, hp]

/-- The row of a request that gets a reply is the request that its bytes spell. -/
theorem exec_requestRow {c : Instr} {dt : Nat} {kind tag : Byte} {p : List Byte} (s : State)
    (hrecord : recordOf c = some (kind, tag, p)) (h0E : kind ≠ 0x0E) (h0F : kind ≠ 0x0F)
    (hdt : c.dt? = some dt) :
    ∃ owner, (∀ u : State, owner u = u.judgeRequest kind p) ∧
      exec c s = .next (request dt kind tag owner s) := by
  cases c
  case unknownKind dt' kind' tag' p' =>
    obtain ⟨rfl, rfl, rfl⟩ : kind' = kind ∧ tag' = tag ∧ p' = p := by simpa [recordOf] using hrecord
    obtain rfl : dt' = dt := by simpa [Instr.dt?] using hdt
    refine ⟨_, fun u => rfl, congrArg Host.Outcome.next ?_⟩
    unfold outside request
    simp only [State.takeRecord_of_request h0E h0F]
    rfl
  all_goals cases hrecord
  all_goals cases hdt
  case samples => exact absurd rfl h0E
  case frameMark => exact absurd rfl h0F
  case setClock q =>
    exact ⟨_, fun u => (congrArg u.ownSetClock (clockRequestOf_clockPayload q)).symm, rfl⟩
  case setChannel q =>
    exact ⟨_, fun u => (congrArg u.ownSetChannel (channelRequestOf_channelPayload q)).symm, rfl⟩
  case setRoute q =>
    exact ⟨_, fun u => (congrArg u.ownSetRoute (routeRequestOf_routePayload q)).symm, rfl⟩
  case setGenerator q =>
    exact ⟨_, fun u => (congrArg u.ownSetGenerator (generatorRequestOf_generatorPayload q)).symm, rfl⟩
  case setPort q =>
    exact ⟨_, fun u => (congrArg u.ownSetPort (portRequestOf_portPayload q)).symm, rfl⟩
  case setTriggers q =>
    refine ⟨_, fun u => ?_, rfl⟩
    rw [State.judgeRequest_of_length (n := 18) rfl (by simp [triggersPayload, bytesOf])]
    exact (congrArg u.ownSetTriggers (triggersRequestOf_triggersPayload q)).symm
  case setResume q =>
    refine ⟨_, fun u => ?_, rfl⟩
    rw [State.judgeRequest_of_length (n := 9) rfl (by simp [resumePayload, List.length_flatMap])]
    exact (congrArg u.ownSetResume (resumeRequestOf_resumePayload q)).symm
  case eventPost q =>
    exact ⟨_, fun u => (congrArg u.ownEventPost (postRequestOf_postPayload q)).symm, rfl⟩
  all_goals exact ⟨_, fun _ => rfl, rfl⟩

/-! #### SAMPLES -/

/-- The pairs of a SAMPLES payload, one after the other. -/
theorem getD_flatMap_sample (xs : List (Byte × Cue)) (i : Nat) (h : i < xs.length) :
    (xs.flatMap fun x => x.1 :: bytesOf x.2).getD (3 * i) 0 = xs[i].1 ∧
      (xs.flatMap fun x => x.1 :: bytesOf x.2).getD (3 * i + 1) 0 = xs[i].2.extractLsb' 8 8 ∧
      (xs.flatMap fun x => x.1 :: bytesOf x.2).getD (3 * i + 2) 0 = xs[i].2.extractLsb' 0 8 := by
  induction xs generalizing i with
  | nil => simp at h
  | cons x xs ih =>
    cases i with
    | zero => simp [bytesOf]
    | succ i =>
      have h' : i < xs.length := by simpa using h
      simpa [Nat.mul_succ, bytesOf] using ih i h'

section
variable (frame : Frame) (offset : Word) {pairs : List (Byte × Cue)}

theorem samplesPayload_head : wordAt (samplesPayload frame offset pairs) 0 = frame ∧
    wordAt (samplesPayload frame offset pairs) 2 = offset ∧
    byteAt (samplesPayload frame offset pairs) 4 = BitVec.ofNat 8 pairs.length := by
  simp [samplesPayload, wordAt, byteAt, bytesOf, word_of_bytes]

theorem samplesPayload_length : (samplesPayload frame offset pairs).length = 5 + 3 * pairs.length := by
  simp [samplesPayload, bytesOf, List.length_flatMap]
  omega

theorem samplePairs_samplesPayload (h : pairs.length ≤ 48) :
    samplePairs (samplesPayload frame offset pairs) = pairs := by
  have hcount : (byteAt (samplesPayload frame offset pairs) 4).toNat = pairs.length := by
    rw [(samplesPayload_head frame offset).2.2, BitVec.toNat_ofNat]
    omega
  refine List.ext_getElem (by simp [samplePairs, hcount]) fun i hi hi' => ?_
  obtain ⟨hnumber, hhigh, hlow⟩ := getD_flatMap_sample pairs i hi'
  simp only [samplePairs, List.getElem_map, List.getElem_range, wordAt, byteAt, samplesPayload, bytesOf,
    List.cons_append, List.nil_append, Nat.add_comm 5, Nat.add_comm 6, List.getD_cons_succ] at *
  rw [hnumber, hhigh, hlow, word_of_bytes]

theorem samplesFit_samplesPayload (h : 1 ≤ pairs.length ∧ pairs.length ≤ 48) :
    samplesFit (samplesPayload frame offset pairs) = true := by
  have hcount : (byteAt (samplesPayload frame offset pairs) 4).toNat = pairs.length := by
    rw [(samplesPayload_head frame offset).2.2, BitVec.toNat_ofNat]
    omega
  simp [samplesFit, pairCountFits, hcount, h, samplesPayload_length]

/-- The row SAMPLES takes its record's pairs. -/
theorem State.takeSamplesRecord_eq_takeRecord (tag : Byte) (h : 1 ≤ pairs.length ∧ pairs.length ≤ 48)
    (s : State) :
    s.takeSamplesRecord frame offset pairs =
      s.takeRecord 0x0E tag (samplesPayload frame offset pairs) := by
  obtain ⟨hframe, hoffset, -⟩ := samplesPayload_head (pairs := pairs) frame offset
  unfold State.takeRecord State.takeSamplesRecord
  rw [if_pos rfl, if_pos (samplesFit_samplesPayload frame offset h), hframe, hoffset,
    samplePairs_samplesPayload frame offset h.2, if_pos (by simpa [pairCountFits] using h)]

end

/-- The rows of the records that get no reply. -/
theorem exec_streamRow {c : Instr} {dt : Nat} {kind tag : Byte} {p : List Byte} (s : State)
    (hfits : c.wellFormed = true) (hrecord : recordOf c = some (kind, tag, p))
    (hkind : kind = 0x0E ∨ kind = 0x0F) (hdt : c.dt? = some dt) :
    exec c s = .next (outside dt (fun u => u.closeRecord.takeRecord kind tag p) s) := by
  cases c
  case unknownKind =>
    cases hrecord
    cases hdt
    rfl
  case samples dt' frame offset pairs =>
    cases hrecord
    cases hdt
    have hcount : 1 ≤ pairs.length ∧ pairs.length ≤ 48 := by
      simp [Instr.wellFormed, Instr.fieldsFit] at hfits
      exact hfits.2
    refine congrArg Host.Outcome.next ?_
    simp only [State.takeSamplesRecord_eq_takeRecord frame offset 0 hcount]
  case frameMark =>
    cases hrecord
    cases hdt
    rfl
  all_goals
    exfalso
    obtain rfl | rfl := hkind <;> cases hrecord

end Sys2Proof.Machine

section
open Sys2Proof Sys2Proof.Machine

/-- Settles O3: the layouts read back what they write, and a row names the owner of its KIND. -/
theorem rowsActAsTheirRecords : Obligations.RowsActAsTheirRecords := by
  unfold Obligations.RowsActAsTheirRecords
  intro c s dt kind tag payload hfits hrecord hdt
  by_cases hkind : kind = 0x0E ∨ kind = 0x0F
  · exact exec_streamRow s hfits hrecord hkind hdt
  · obtain ⟨h0E, h0F⟩ := not_or.mp hkind
    obtain ⟨owner, howner, hexec⟩ := exec_requestRow s hrecord h0E h0F hdt
    rw [hexec]
    refine congrArg Host.Outcome.next ?_
    unfold request outside
    simp only [State.takeRecord_of_request h0E h0F, funext howner]

/-- Settles O5: a request's row is its record, which finds no room for its reply (R179). -/
theorem fullReplyQueueRefusesRequests : Obligations.FullReplyQueueRefusesRequests := by
  unfold Obligations.FullReplyQueueRefusesRequests
  intro c s dt kind tag payload hrecord h0E h0F hdt hrun hfull
  obtain ⟨owner, -, hexec⟩ := exec_requestRow s hrecord h0E h0F hdt
  rw [hexec]
  exact congrArg Host.Outcome.next
    ((outside_of_running dt _ hrun).trans (answer_of_full (s := s.taken dt) kind tag owner hfull))

end

/-! ### Every command, power and reset -/

namespace Sys2Proof.Machine

/-- Nothing but POWER_ON and RESET moves the RESET line, and nothing the waiting commands. -/
theorem Deed.frame {s t : State} (h : Deed s t) : t.pending = s.pending ∧ t.inReset = s.inReset := by
  cases h
  case writeRoute => exact ⟨rfl, rfl⟩
  case rxError => exact ⟨rfl, rfl⟩
  all_goals
    constructor <;>
      simp [State.endBeat, State.setWait, State.setAbort, State.writeRamps, State.enterMotion,
        apply_ite State.pending, apply_ite State.inReset]

theorem Act.frame {s t : State} (h : Act s t) : t.pending = s.pending ∧ t.inReset = s.inReset := by
  cases h with
  | deed hd => exact hd.frame
  | reply r => simp
  | sent => simp
  | framer fr => simp

theorem Acts.frame {s t : State} (h : Acts s t) : t.pending = s.pending ∧ t.inReset = s.inReset :=
  h.keeps (P := fun u => u.pending = s.pending ∧ u.inReset = s.inReset)
    (fun _ _ ha hu => ⟨ha.frame.1.trans hu.1, ha.frame.2.trans hu.2⟩) ⟨rfl, rfl⟩

/-! #### While RESET is asserted (log 10) -/

namespace State

variable {s : State}

theorem ownRow_of_inReset (e : OwnEvent) (h : s.inReset = true) : s.ownRow e = s := by
  simp [ownRow, h]

theorem frameRow_of_inReset (brings : State → Bool) (h : s.inReset = true) : s.frameRow brings = s := by
  simp [frameRow, h]

theorem byteFromLine_of_inReset (dt : Nat) (b : RxByte) (h : s.inReset = true) :
    s.byteFromLine dt b = s := by
  simp [byteFromLine, h]

theorem assertReset_port (s : State) (p : Port) :
    s.assertReset.port p = { s.port p with inFlight := none } := by
  cases p <;> rfl

end State

theorem State.claimsFit_reset : State.reset.claimsFit := by
  rw [claimsFit_iff]
  intro i j _ hsome
  simp [claimed, reset, Reset.route] at hsome

/-- The rows other than POWER_ON and those of the boards' levels do nothing in RESET. -/
theorem exec_of_inReset {c : Instr} {s : State} (h : s.inReset = true)
    (hpower : ∀ a b, c ≠ .powerOn a b) (hwait : ∀ dt p, c ≠ .waitAssert dt p ∧ c ≠ .waitRelease dt p)
    (habort : ∀ dt p, c ≠ .abortAssert dt p ∧ c ≠ .abortRelease dt p) : exec c s = .next s := by
  have hout (dt : Nat) (act : State → State) : outside dt act s = s := outside_of_inReset dt act h
  cases c
  case powerOn a b => exact absurd rfl (hpower a b)
  case waitAssert dt p => exact absurd rfl (hwait dt p).1
  case waitRelease dt p => exact absurd rfl (hwait dt p).2
  case abortAssert dt p => exact absurd rfl (habort dt p).1
  case abortRelease dt p => exact absurd rfl (habort dt p).2
  all_goals refine congrArg Host.Outcome.next ?_
  case frameStart | release | skip | partialEnd | packetComplete | destinationRelease | missed
      | payloadBeatEnd | gap => exact State.ownRow_of_inReset _ h
  case misses | holdoverExpired | staleEntry | pulseEnd | echoInterval | echoMissed =>
    exact State.frameRow_of_inReset _ h
  case candidateFails | byteReceived => exact State.byteFromLine_of_inReset _ _ h
  case recordSent => exact if_pos h
  all_goals exact hout _ _

/-! #### Requests that find room for their reply -/

/-- What a request's owner answers, its reply says. -/
theorem next_request {s : State} {dt : Nat} {kind tag : Byte} {owner : State → Answer} {a : Answer}
    (h : s.canAnswer dt) (ha : owner (s.taken dt) = a) :
    (Host.Outcome.next (request dt kind tag owner s) : Host.Outcome State Fault Refusal) =
      .next (a.state.replied (replyKind kind) tag a.result a.body) := by
  subst ha
  exact congrArg Host.Outcome.next (request_of_canAnswer kind tag owner h)

theorem exec_unknownKind {s : State} {dt : Nat} {kind tag : Byte} {payload : List Byte} {a : Answer}
    (h : s.canAnswer dt) (h0E : kind ≠ 0x0E) (h0F : kind ≠ 0x0F)
    (ha : (s.taken dt).judgeRequest kind payload = a) :
    exec (.unknownKind dt kind tag payload) s =
      .next (a.state.replied (replyKind kind) tag a.result a.body) := by
  obtain ⟨owner, howner, hexec⟩ := exec_requestRow (dt := dt) s
    (c := .unknownKind dt kind tag payload) rfl h0E h0F rfl
  rw [hexec]
  exact next_request h ((howner _).trans ha)

theorem requestLength_eq_none {kind : Byte} (h : kind.toNat = 0 ∨ 0x15 < kind.toNat) :
    requestLength kind = none := by
  unfold requestLength
  split
  case h_20 => rfl
  all_goals omega

end Sys2Proof.Machine

section
open Sys2Proof Sys2Proof.Machine

/-- Settles O1. -/
theorem stepTakesFrontCommand : Obligations.StepTakesFrontCommand := by
  unfold Obligations.StepTakesFrontCommand
  refine ⟨fun c rest s => rfl, fun s hempty => ?_⟩
  unfold step
  rw [hempty]
  rfl

/-- Settles O2: a command is a chain of acts, a power-on or an assertion of RESET. -/
theorem everyCommandCompletes : Obligations.EveryCommandCompletes := by
  unfold Obligations.EveryCommandCompletes
  intro c s
  by_cases hpower : (∀ a b, c ≠ .powerOn a b) ∧ ∀ dt, c ≠ .reset dt
  · obtain ⟨t, ht, hacts⟩ := exec_acts c s hpower.1 hpower.2
    exact ⟨t, ht, hacts.frame.1, fun _ _ => hacts.frame.2⟩
  · have hout (h : (∀ a b, c ≠ .powerOn a b) → (∀ dt, c ≠ .reset dt) → False) (t : State) :
        (∀ a b, c ≠ .powerOn a b) → (∀ dt, c ≠ .reset dt) → t.inReset = s.inReset :=
      fun ha hb => (h ha hb).elim
    obtain ⟨t, ht, hcase⟩ := exec_cases c s
    refine ⟨t, ht, ?_, hout (fun ha hb => hpower ⟨ha, hb⟩) t⟩
    obtain hacts | ⟨rate, rfl⟩ | ⟨u, hacts, rfl⟩ := hcase
    · exact hacts.frame.1
    · rfl
    · simpa using hacts.frame.1

/-- Settles O51. -/
theorem powerOnGivesResetValues : Obligations.PowerOnGivesResetValues := by
  unfold Obligations.PowerOnGivesResetValues
  intro spd1 spd0 s
  refine ⟨_, rfl, rfl, rfl, fun i => Vector.getElem_replicate _, rfl,
    fun i => Vector.getElem_replicate _, fun g => Vector.getElem_replicate _, fun p => ?_, rfl, rfl,
    fun n => Vector.getElem_replicate _, fun i => Vector.getElem_replicate _, rfl, rfl, ?_, rfl, rfl,
    rfl, rfl, rfl, rfl, rfl, rfl, rfl, rfl, rfl⟩
  · cases p <;>
      exact ⟨rfl, rfl, rfl, rfl, rfl, rfl, rfl, rfl, rfl, rfl, rfl, rfl, rfl, rfl, rfl, rfl, rfl, rfl⟩
  · cases spd1 <;> cases spd0 <;> rfl

/-- Settles O52. -/
theorem resetCutsAndHolds : Obligations.ResetCutsAndHolds := by
  unfold Obligations.ResetCutsAndHolds
  refine ⟨fun dt s hrun => ?_, fun c s hreset => ?_⟩
  · refine ⟨_, congrArg Host.Outcome.next (outside_of_running dt _ hrun), rfl, ?_, rfl, ?_⟩
    · exact State.assertReset_port _
    · simp
  · cases c
    case powerOn => exact ⟨_, rfl, rfl⟩
    case waitAssert dt p =>
      exact congrArg (fun u : State => Host.Outcome.next (u.setWait p true)) (State.elapse_of_inReset dt hreset)
    case waitRelease => exact congrArg Host.Outcome.next (if_pos hreset)
    case abortAssert => exact congrArg Host.Outcome.next (if_pos hreset)
    case abortRelease => exact congrArg Host.Outcome.next (if_pos hreset)
    all_goals
      exact exec_of_inReset hreset (by simp) (by simp) (by simp)

/-- Settles O60. -/
theorem resetMeetsTheInvariants : Obligations.ResetMeetsTheInvariants := by
  unfold Obligations.ResetMeetsTheInvariants
  exact
    { ramp := rfl
      reason := by decide
      clock := rfl
      ring := by decide
      settings := rfl
      stores := by decide
      tags := by decide
      entries := fun _ he => nomatch he
      claims := State.claimsFit_reset
      ports := State.portsFit_powerUp .one State.reset }

/-- Settles O47: steps 3 to 5 of R178, once the record has room for its reply. -/
theorem unknownKindIsAnswered : Obligations.UnknownKindIsAnswered := by
  unfold Obligations.UnknownKindIsAnswered
  intro dt kind tag payload s hroom u
  refine ⟨fun hkind => ?_, fun n hn hlen => ?_⟩
  · have hnone : requestLength kind = none := requestLength_eq_none hkind
    have hjudge : u.judgeRequest kind payload = ⟨u, .unknownKind, .bare⟩ := by
      simp [State.judgeRequest, hnone]
    exact exec_unknownKind hroom (by rintro rfl; simp at hkind) (by rintro rfl; simp at hkind) hjudge
  · have hjudge : u.judgeRequest kind payload = ⟨u, .badLength, .badLength payload.length⟩ := by
      simp [State.judgeRequest, hn, hlen]
    exact exec_unknownKind hroom (by rintro rfl; cases hn) (by rintro rfl; cases hn) hjudge

end

/-! ### The notice slots on a busy transmitter (R181, R182)

While a record is being sent nothing leaves a slot, and each event places notices of its own classes only. -/

namespace Sys2Proof.Machine

/-- The places where a record waits for the transmitter. -/
inductive Slot where
  | frameStart | state | clock | port | late | outcomes | stamps

/-- The slot holds the same in both. -/
def Slot.same (l m : Link) : Slot → Prop
  | .frameStart => m.frameStart = l.frameStart
  | .state => m.slots.state = l.slots.state
  | .clock => m.slots.clock = l.slots.clock
  | .port => m.slots.port = l.slots.port
  | .late => m.slots.late = l.slots.late
  | .outcomes => m.slots.outcomes = l.slots.outcomes
  | .stamps => m.slots.stamps = l.slots.stamps

/-- The framer stays as it is; a busy transmitter stays so, and no slot moves but those named. -/
def Notes (xs : List Slot) (s t : State) : Prop :=
  t.link.framer = s.link.framer ∧
    (s.link.tx ≠ .idle → t.link.tx = s.link.tx ∧ ∀ x, x ∉ xs → x.same s.link t.link)

theorem Slot.same_trans {l m n : Link} {x : Slot} (h : x.same l m) (h' : x.same m n) : x.same l n := by
  cases x <;> exact Eq.trans h' h

namespace Notes

variable {xs ys : List Slot} {s t u : State}

theorem of_link_eq (h : t.link = s.link) : Notes xs s t := by
  unfold Notes
  rw [h]
  exact ⟨rfl, fun _ => ⟨rfl, fun x _ => by cases x <;> rfl⟩⟩

theorem refl (xs : List Slot) (s : State) : Notes xs s s := .of_link_eq rfl

theorem trans (h : Notes xs s t) (h' : Notes xs t u) : Notes xs s u := by
  refine ⟨h'.1.trans h.1, fun hbusy => ?_⟩
  obtain ⟨htx, hsame⟩ := h.2 hbusy
  obtain ⟨htx', hsame'⟩ := h'.2 (htx ▸ hbusy)
  exact ⟨htx'.trans htx, fun x hx => Slot.same_trans (hsame x hx) (hsame' x hx)⟩

theorem framer (h : Notes xs s t) : t.link.framer = s.link.framer := h.1

/-- The deeds that leave the link alone come before. -/
theorem after (h : Notes xs t u) (hlink : t.link = s.link) : Notes xs s u :=
  (of_link_eq hlink).trans h

theorem mono (h : Notes xs s t) (hsub : xs ⊆ ys) : Notes ys s t :=
  ⟨h.1, fun hbusy => ⟨(h.2 hbusy).1, fun x hx => (h.2 hbusy).2 x fun hmem => hx (hsub hmem)⟩⟩

theorem tx (h : Notes xs s t) (hbusy : s.link.tx ≠ .idle) : t.link.tx = s.link.tx := (h.2 hbusy).1

theorem busy (h : Notes xs s t) (hbusy : s.link.tx ≠ .idle) : t.link.tx ≠ .idle := by
  rwa [h.tx hbusy]

theorem state (h : Notes xs s t) (hbusy : s.link.tx ≠ .idle) (hx : .state ∉ xs := by simp) :
    t.link.slots.state = s.link.slots.state := (h.2 hbusy).2 .state hx

theorem clock (h : Notes xs s t) (hbusy : s.link.tx ≠ .idle) (hx : .clock ∉ xs := by simp) :
    t.link.slots.clock = s.link.slots.clock := (h.2 hbusy).2 .clock hx

theorem port (h : Notes xs s t) (hbusy : s.link.tx ≠ .idle) (hx : .port ∉ xs := by simp) :
    t.link.slots.port = s.link.slots.port := (h.2 hbusy).2 .port hx

theorem late (h : Notes xs s t) (hbusy : s.link.tx ≠ .idle) (hx : .late ∉ xs := by simp) :
    t.link.slots.late = s.link.slots.late := (h.2 hbusy).2 .late hx

theorem outcomes (h : Notes xs s t) (hbusy : s.link.tx ≠ .idle) (hx : .outcomes ∉ xs := by simp) :
    t.link.slots.outcomes = s.link.slots.outcomes := (h.2 hbusy).2 .outcomes hx

theorem stamps (h : Notes xs s t) (hbusy : s.link.tx ≠ .idle) (hx : .stamps ∉ xs := by simp) :
    t.link.slots.stamps = s.link.slots.stamps := (h.2 hbusy).2 .stamps hx

theorem frameStart (h : Notes xs s t) (hbusy : s.link.tx ≠ .idle) (hx : .frameStart ∉ xs := by simp) :
    t.link.frameStart = s.link.frameStart := (h.2 hbusy).2 .frameStart hx

end Notes

@[simp] theorem Link.kick_framer (now : Instant) (l : Link) : (l.kick now).framer = l.framer := by
  unfold Link.kick
  split <;> simp

@[simp] theorem Link.placed_framer (now : Instant) (late : Bool) (l : Link) :
    (l.placed now late).framer = l.framer := by
  cases late <;> simp [Link.placed]

theorem Link.placed_of_busy {now : Instant} {late : Bool} {l : Link} (h : l.tx ≠ .idle) :
    l.placed now late = l := by
  cases late
  · exact Link.kick_of_busy h
  · rfl

/-- A busy transmitter leaves a placed notice in its slot, over what the slot held (R181). -/
theorem placeIn_eq {α : Type} (slot : Option (Held α)) (content : α) :
    placeIn slot content = placedOver slot content := by
  cases slot <;> rfl

namespace State

variable (s : State) {s : State}

@[simp] theorem placeSlots_framer (n : NoticeSlots) : (s.placeSlots n).link.framer = s.link.framer := by
  simp [placeSlots]

theorem placeSlots_of_busy (n : NoticeSlots) (h : s.link.tx ≠ .idle) :
    (s.placeSlots n).link = { s.link with slots := n } :=
  Link.placed_of_busy (l := { s.link with slots := n }) h

theorem placeState_of_busy (n : StateNotice) (h : s.link.tx ≠ .idle) :
    (s.placeState n).link =
      { s.link with slots := { s.link.slots with state := placedOver s.link.slots.state n } } := by
  rw [← placeIn_eq]
  exact placeSlots_of_busy _ h

theorem placeClock_of_busy (n : ClockNotice) (h : s.link.tx ≠ .idle) :
    (s.placeClock n).link =
      { s.link with slots := { s.link.slots with clock := placedOver s.link.slots.clock n } } := by
  rw [← placeIn_eq]
  exact placeSlots_of_busy _ h

theorem placePort_of_busy (n : PortNotice) (h : s.link.tx ≠ .idle) :
    (s.placePort n).link =
      { s.link with slots := { s.link.slots with port := placedOver s.link.slots.port n } } := by
  rw [← placeIn_eq]
  exact placeSlots_of_busy _ h

theorem placeLate_of_busy (n : LateNotice) (h : s.link.tx ≠ .idle) :
    (s.placeLate n).link =
      { s.link with slots := { s.link.slots with late := placedOver s.link.slots.late n } } := by
  rw [← placeIn_eq]
  exact placeSlots_of_busy _ h

theorem placeOutcomes_of_busy (n : OutcomesNotice) (h : s.link.tx ≠ .idle) :
    (s.placeOutcomes n).link =
      { s.link with slots := { s.link.slots with outcomes := placedOver s.link.slots.outcomes n } } := by
  rw [← placeIn_eq]
  exact placeSlots_of_busy _ h

theorem placeStamps_of_busy (n : StampsNotice) (h : s.link.tx ≠ .idle) :
    (s.placeStamps n).link =
      { s.link with slots := { s.link.slots with stamps := placedOver s.link.slots.stamps n } } := by
  rw [← placeIn_eq]
  exact placeSlots_of_busy _ h

theorem placeFrameStart_of_busy (r : FrameStartRecord) (h : s.link.tx ≠ .idle) :
    (s.placeFrameStart r).link = { s.link with frameStart := some r } :=
  Link.placed_of_busy (l := { s.link with frameStart := some r }) h

/-- The reply of a request joins the queue, and the slots stay (R179). -/
theorem pushReply_of_busy (r : Reply) (h : s.link.tx ≠ .idle) :
    (s.pushReply r).link = { s.link with replies := s.link.replies ++ [r] } :=
  Link.kick_of_busy (l := { s.link with replies := s.link.replies ++ [r] }) h

variable (s : State)

theorem notes_placeState (n : StateNotice) : Notes [.state] s (s.placeState n) := by
  refine ⟨placeSlots_framer _, fun h => ?_⟩
  rw [placeState_of_busy n h]
  exact ⟨rfl, fun x hx => by cases x <;> simp_all [Slot.same]⟩

theorem notes_placeClock (n : ClockNotice) : Notes [.clock] s (s.placeClock n) := by
  refine ⟨placeSlots_framer _, fun h => ?_⟩
  rw [placeClock_of_busy n h]
  exact ⟨rfl, fun x hx => by cases x <;> simp_all [Slot.same]⟩

theorem notes_placePort (n : PortNotice) : Notes [.port] s (s.placePort n) := by
  refine ⟨placeSlots_framer _, fun h => ?_⟩
  rw [placePort_of_busy n h]
  exact ⟨rfl, fun x hx => by cases x <;> simp_all [Slot.same]⟩

theorem notes_placeLate (n : LateNotice) : Notes [.late] s (s.placeLate n) := by
  refine ⟨placeSlots_framer _, fun h => ?_⟩
  rw [placeLate_of_busy n h]
  exact ⟨rfl, fun x hx => by cases x <;> simp_all [Slot.same]⟩

theorem notes_placeOutcomes (n : OutcomesNotice) : Notes [.outcomes] s (s.placeOutcomes n) := by
  refine ⟨placeSlots_framer _, fun h => ?_⟩
  rw [placeOutcomes_of_busy n h]
  exact ⟨rfl, fun x hx => by cases x <;> simp_all [Slot.same]⟩

theorem notes_placeFrameStart (r : FrameStartRecord) :
    Notes [.frameStart] s (s.placeFrameStart r) := by
  refine ⟨by simp [placeFrameStart], fun h => ?_⟩
  rw [placeFrameStart_of_busy r h]
  exact ⟨rfl, fun x hx => by cases x <;> simp_all [Slot.same]⟩

theorem notes_pushReply (xs : List Slot) (r : Reply) : Notes xs s (s.pushReply r) := by
  refine ⟨by simp [pushReply], fun h => ?_⟩
  rw [pushReply_of_busy r h]
  exact ⟨rfl, fun x hx => by cases x <;> rfl⟩

theorem notes_kick (xs : List Slot) : Notes xs s s.kick := by
  refine ⟨by simp [kick], fun h => ?_⟩
  have hlink : s.kick.link = s.link := Link.kick_of_busy h
  exact (Notes.of_link_eq (xs := xs) hlink).2 h

/-! #### Settling, skips and starts -/

theorem notes_settleEntry (e : Entry) : Notes [.outcomes] s (s.settleEntry e) := by
  unfold settleEntry
  split
  · exact (notes_placeOutcomes _ _).after rfl
  · exact .refl _ s

theorem notes_settle : Notes [.outcomes] s s.settle := by
  unfold settle
  generalize s.queue = es
  induction es generalizing s with
  | nil => exact .refl _ s
  | cons e es ih => exact (s.notes_settleEntry e).trans (ih _)

theorem notes_mapDests_settle (f : Entry → Destination → Destination) :
    Notes [.outcomes] s (s.mapDests f).settle :=
  (notes_settle _).after rfl

theorem notes_skipOne (p : Port) (sc : Schedule) : Notes [.late] s (s.skipOne p sc) := by
  unfold skipOne
  dsimp only
  split
  · exact (notes_placeLate _ _).after rfl
  · exact .of_link_eq rfl

theorem notes_skipPast (p : Port) (n : Nat) : Notes [.late] s (s.skipPast p n) := by
  induction n generalizing s with
  | zero => exact .refl _ s
  | succ n ih =>
    unfold skipPast
    split
    · split
      · exact (s.notes_skipOne p _).trans (ih _)
      · exact .refl _ s
    · exact .refl _ s

theorem notes_expireAll : Notes [.late, .outcomes] s s.expireAll := by
  have hport (p : Port) (u : State) : Notes [.late, .outcomes] u (u.expirePort p) :=
    ((u.notes_skipPast p _).mono (by simp)).trans (.of_link_eq rfl)
  exact (((hport .vision s).trans (hport .sound _)).trans (hport .cab _)).trans
    ((notes_mapDests_settle _ _).mono (by simp))

/-- Only the start of a CUE packet, whose skips it may bring, moves the link. -/
theorem startClaim_link (p : Port) {c : Claim} (hc : c ≠ .cue) : (s.startClaim p c).link = s.link := by
  cases c
  case cue => exact absurd rfl hc
  case continuation => rfl
  case event tag =>
    unfold startClaim startEvent
    dsimp only
    split <;> rfl
  case neutral =>
    unfold startClaim startNeutral
    dsimp only
    split <;> rfl
  case echo =>
    unfold startClaim startEcho
    dsimp only
    split <;> rfl

theorem notes_startClaim (p : Port) (c : Claim) : Notes [.late] s (s.startClaim p c) := by
  by_cases hc : c = .cue
  · subst hc
    unfold startClaim startCue
    dsimp only
    split
    · exact .refl _ s
    · exact (notes_skipPast _ p _).after rfl
  · exact .of_link_eq (s.startClaim_link p hc)

theorem notes_grant (p : Port) : Notes [.late] s (s.grant p) := by
  unfold grant
  split
  · split
    · exact s.notes_startClaim p _
    · exact .refl _ s
  · exact .refl _ s

theorem notes_finishLines : Notes [.late, .outcomes] s s.finishLines :=
  s.notes_expireAll.trans <|
    (((notes_grant _ .vision).trans (notes_grant _ .sound)).trans (notes_grant _ .cab)).mono (by simp)

/-! #### Changes of state -/

theorem notes_changeHub (new : HubState) (reason : HaltReason) (f : Nat) (cause : StateCause) :
    Notes [.state] s (s.changeHub new reason f cause) :=
  (notes_placeState _ _).after rfl

theorem changeHub_of_busy {s : State} (new : HubState) (reason : HaltReason) (f : Nat) (cause : StateCause)
    (h : s.link.tx ≠ .idle) :
    (s.changeHub new reason f cause).link =
      { s.link with
        slots :=
          { s.link.slots with
            state :=
              placedOver s.link.slots.state ⟨new, s.ctrl.st, cause, reason, f, s.clock.current⟩ } } :=
  placeState_of_busy (s := s.withCtrl { s.ctrl with st := new, reason := reason, f := f }) _ h

/-- After its STATE notice PAUSED entry places OUTCOMES notices alone, and so does HALTED entry (log 31). -/
theorem notes_pausedFlush (cause : StateCause) :
    Notes [.outcomes] (s.changeHub .paused s.ctrl.reason 0 cause) (s.enterPaused cause) :=
  ((notes_mapDests_settle
    ((((s.changeHub .paused s.ctrl.reason 0 cause).cutEvent .vision).cutEvent .sound).cutEvent .cab)
      fun _ => Destination.drop).after (by simp)).trans (.of_link_eq rfl)

theorem notes_haltedFlush (reason : HaltReason) (cause : StateCause) :
    Notes [.outcomes] (s.changeHub .halted reason 0 cause) (s.enterHalted reason cause) :=
  (notes_mapDests_settle
    ((((s.changeHub .halted reason 0 cause).haltPort .vision).haltPort .sound).haltPort .cab) _).after rfl

theorem notes_enterPaused (cause : StateCause) : Notes [.state, .outcomes] s (s.enterPaused cause) :=
  ((s.notes_changeHub .paused s.ctrl.reason 0 cause).mono (by simp)).trans
    ((s.notes_pausedFlush cause).mono (by simp))

theorem notes_enterHalted (reason : HaltReason) (cause : StateCause) :
    Notes [.state, .outcomes] s (s.enterHalted reason cause) :=
  ((s.notes_changeHub .halted reason 0 cause).mono (by simp)).trans
    ((s.notes_haltedFlush reason cause).mono (by simp))

theorem enterPaused_stateSlot {s : State} (cause : StateCause) (h : s.link.tx ≠ .idle) :
    (s.enterPaused cause).link.slots.state =
      placedOver s.link.slots.state ⟨.paused, s.ctrl.st, cause, s.ctrl.reason, 0, s.clock.current⟩ := by
  have hbusy := (s.notes_changeHub .paused s.ctrl.reason 0 cause).busy h
  rw [(s.notes_pausedFlush cause).state hbusy, changeHub_of_busy .paused s.ctrl.reason 0 cause h]

theorem notes_noteClock (left : ClockState) (cause : ClockCause) :
    Notes [.clock] s (s.noteClock left cause) := by
  unfold noteClock
  split
  · exact .refl _ s
  · exact notes_placeClock _ _

theorem notes_notePort (p : Port) (left : PortState) (cause : PortCause) :
    Notes [.port] s (s.notePort p left cause) := by
  unfold notePort
  split
  · exact .refl _ s
  · exact notes_placePort _ _

theorem notes_notePorts (old : Ports) (cause : PortCause) : Notes [.port] s (s.notePorts old cause) :=
  ((s.notes_notePort _ _ _).trans (notes_notePort _ _ _ _)).trans (notes_notePort _ _ _ _)

end State
end Sys2Proof.Machine

/-! ### HUB_COMMAND (R20 to R28) -/

namespace Sys2Proof.Machine

theorem maskFits_two_iff (mask : Byte) : maskFits mask 2 = true ↔ mask.toNat < 4 := by
  simp [maskFits]

namespace State

variable {s : State} {q : RampRequest} {accepts : HubState → Bool}
  {check : State → Option (Result × HubDetail)} {act : State → State}

theorem hubCommand_of_badMask (h : 4 ≤ q.mask.toNat) :
    s.hubCommand q accepts check act = ⟨s, .badValue, s.hubBody .none⟩ := by
  have hmask : maskFits q.mask 2 = false := by
    rw [← Bool.not_eq_true, maskFits_two_iff]
    omega
  simp [hubCommand, hmask]

theorem hubCommand_of_refused (hmask : q.mask.toNat < 4) (haccepts : accepts s.ctrl.st = false) :
    s.hubCommand q accepts check act = ⟨s, .wrongState, s.hubBody .none⟩ :=
  hubCommand_of_wrongState check act ((maskFits_two_iff _).mpr hmask) haccepts

theorem hubCommand_of_failed (hmask : q.mask.toNat < 4) (haccepts : accepts s.ctrl.st = true)
    {result : Result} {detail : HubDetail} (hcheck : check s = some (result, detail)) :
    s.hubCommand q accepts check act = ⟨s, result, s.hubBody detail⟩ := by
  simp [hubCommand, (maskFits_two_iff _).mpr hmask, haccepts, hcheck]

theorem hubCommand_of_taken (hmask : q.mask.toNat < 4) (haccepts : accepts s.ctrl.st = true)
    (hcheck : check s = none) :
    s.hubCommand q accepts check act =
      ⟨act (s.writeRamps q), .ok, (act (s.writeRamps q)).hubBody .none⟩ :=
  hubCommand_of_accepted act ((maskFits_two_iff _).mpr hmask) haccepts hcheck

end State

/-! #### The configuration check of ARM (R23) -/

namespace State

variable (s : State)

theorem essentialDisabled_eq_none_iff :
    s.essentialDisabled = none ↔
      ∀ p, (s.port p).cfg.essential = true → (s.port p).cfg.enable = true := by
  simp only [essentialDisabled, List.find?_eq_none, Bool.and_eq_true, Bool.not_eq_true', not_and,
    Bool.not_eq_false]
  exact ⟨fun h p => h p (by cases p <;> simp [allPorts]), fun h p _ => h p⟩

theorem routeFault_eq_none_iff (i : Fin 64) :
    s.routeFault i = none ↔
      ∀ p, (s.routes[i]).port = some p →
        (s.port p).cfg.enable = true ∧ (s.routes[i]).slot < (s.port p).cfg.slots := by
  unfold routeFault
  split
  · next hnone => simp only [hnone, reduceCtorEq, false_imp_iff, implies_true]
  · next p hp =>
    simp only [hp, Option.some.injEq, forall_eq']
    split
    · next h => simp_all
    · next h =>
      split
      · next hslot => simp_all
      · next hslot => simp_all

theorem lineFault_eq_none_iff (g : Fin 4) :
    s.lineFault g = none ↔ (s.gens[g]).triggerLine = 0xFF ∨ (s.gens[g]).triggerLine.toNat ≤ 15 := by
  unfold lineFault
  split <;> simp_all

/-- The check passes exactly on the items of R23. -/
theorem configFault_eq_none_iff :
    s.configFault = none ↔
      (∃ p, (s.port p).cfg.enable = true) ∧
      (∀ p, (s.port p).cfg.essential = true → (s.port p).cfg.enable = true) ∧
      (∀ (i : Fin 64) (p : Port), (s.routes[i]).port = some p →
        (s.port p).cfg.enable = true ∧ (s.routes[i]).slot < (s.port p).cfg.slots) ∧
      ∀ g : Fin 4, (s.gens[g]).triggerLine = 0xFF ∨ (s.gens[g]).triggerLine.toNat ≤ 15 := by
  have hall : allPorts.all (fun p => !(s.port p).cfg.enable) = true ↔
      ¬∃ p, (s.port p).cfg.enable = true := by
    simp only [List.all_eq_true, Bool.not_eq_true', not_exists, Bool.not_eq_true]
    exact ⟨fun h p => h p (by cases p <;> simp [allPorts]), fun h p _ => h p⟩
  have hroutes : (List.finRange 64).findSome? s.routeFault = none ↔ ∀ i, s.routeFault i = none := by
    simp [List.findSome?_eq_none_iff]
  have hlines : (List.finRange 4).findSome? s.lineFault = none ↔ ∀ g, s.lineFault g = none := by
    simp [List.findSome?_eq_none_iff]
  simp only [← essentialDisabled_eq_none_iff, ← routeFault_eq_none_iff, ← lineFault_eq_none_iff,
    ← hroutes, ← hlines]
  unfold configFault
  split
  · next h => simp [hall.mp h]
  · next h =>
    have hsome : ∃ p, (s.port p).cfg.enable = true := not_not.mp (mt hall.mpr h)
    simp only [hsome, true_and]
    split
    · next hp => simp [hp]
    · next hp =>
      split
      · next hi => simp [hi]
      · next hi => simp [hp, hi]

end State

/-! #### Readiness (R25, R27) -/

namespace State

variable (s : State)

theorem notRunning_eq_nil_iff :
    s.notRunning = [] ↔ ∀ p, (s.port p).cfg.essential = true → (s.port p).st = .running := by
  simp only [notRunning, List.filter_eq_nil_iff, Bool.and_eq_true, decide_eq_true_eq,
    not_and, not_not]
  exact ⟨fun h p => h p (by cases p <;> simp [allPorts]), fun h p _ => h p⟩

theorem readyToGo_iff :
    s.readyToGo = true ↔
      s.clock.st = .locked ∧ ∀ p, (s.port p).cfg.essential = true → (s.port p).st = .running := by
  simp [readyToGo, notRunning_eq_nil_iff]

theorem readyToResume_iff :
    s.readyToResume = true ↔
      (s.clock.st = .locked ∨ s.clock.st = .holdover) ∧
        ∀ p, (s.port p).cfg.essential = true → (s.port p).st = .running := by
  simp [readyToResume, notRunning_eq_nil_iff]

/-- Motion moves the controller, and its STATE notice the link. -/
theorem enterMotion_eq (cause : StateCause) :
    ∃ l, s.enterMotion cause =
      (s.withCtrl
        { s.ctrl with
          st := if s.ctrl.rampIn = 0 then .live else .rampIn
          f := if s.ctrl.rampIn = 0 then 256 else s.ctrl.f }).withLink l := by
  unfold enterMotion
  split
  all_goals exact ⟨_, rfl⟩

theorem enterMotion_stateSlot {s : State} (cause : StateCause) (h : s.link.tx ≠ .idle) :
    (s.enterMotion cause).link =
      { s.link with
        slots :=
          { s.link.slots with
            state :=
              placedOver s.link.slots.state
                ⟨if s.ctrl.rampIn = 0 then .live else .rampIn, s.ctrl.st, cause, s.ctrl.reason,
                  if s.ctrl.rampIn = 0 then 256 else s.ctrl.f, s.clock.current⟩ } } := by
  unfold enterMotion
  split <;> exact changeHub_of_busy _ _ _ _ h

/-- The hub brought into motion by a command, its ramp fields written first, with the reply queued. -/
theorem motion_replied (u : State) (q : RampRequest) (tag : Byte) :
    let rampIn := if q.mask.getLsbD 0 then q.rampIn.toNat else u.ctrl.rampIn
    let rampOut := if q.mask.getLsbD 1 then q.rampOut.toNat else u.ctrl.rampOut
    let new : HubState := if rampIn = 0 then .live else .rampIn
    let f := if rampIn = 0 then 256 else u.ctrl.f
    let v := (u.writeRamps q).enterMotion .command
    let t := v.replied 0x81 tag .ok (v.hubBody .none)
    t = (u.withCtrl ⟨new, u.ctrl.reason, f, rampIn, rampOut⟩).withLink t.link ∧
      t.link.replies =
        u.link.replies ++ [⟨0x81, tag, .ok, .hub new f u.ctrl.reason rampIn rampOut .none⟩] ∧
      (u.link.tx ≠ .idle →
        t.link.slots.state =
          placedOver u.link.slots.state ⟨new, u.ctrl.st, .command, u.ctrl.reason, f, u.clock.current⟩) := by
  intro rampIn rampOut new f v t
  obtain ⟨l, hl⟩ := enterMotion_eq (u.writeRamps q) .command
  have hv : v = (u.withCtrl ⟨new, u.ctrl.reason, f, rampIn, rampOut⟩).withLink l := hl
  have hbody : v.hubBody .none = .hub new f u.ctrl.reason rampIn rampOut .none := by rw [hv]; rfl
  have hreplies : v.link.replies = u.link.replies := enterMotion_replies (u.writeRamps q) .command
  refine ⟨?_, ?_, fun hbusy => ?_⟩
  · have ht : t = v.withLink t.link := rfl
    have hlink : v.withLink t.link =
        ((u.withCtrl ⟨new, u.ctrl.reason, f, rampIn, rampOut⟩).withLink l).withLink t.link :=
      congrArg (fun w : State => w.withLink t.link) hv
    exact ht.trans hlink
  · rw [← hbody, ← hreplies]
    exact replied_replies _ _ _ _ v
  · have hslot := enterMotion_stateSlot (s := u.writeRamps q) .command hbusy
    have hkept : Notes [] v t := notes_pushReply v [] _
    have hvbusy : v.link.tx ≠ .idle := by rw [hslot]; exact hbusy
    rw [hkept.state hvbusy, hslot]
    rfl

end State
end Sys2Proof.Machine

section
open Sys2Proof Sys2Proof.Machine

/-- Settles O12: the mask, then the hub state, before anything is done (R20). -/
theorem hubCommandsAreChecked : Obligations.HubCommandsAreChecked := by
  unfold Obligations.HubCommandsAreChecked
  refine ⟨fun dt tag q s hroom => ?_, fun dt tag q s hroom => ?_⟩
  · intro u
    by_cases hmask : q.mask.toNat < 4
    · rw [if_pos hmask]
      exact next_request hroom (State.hubCommand_of_taken hmask rfl rfl)
    · rw [if_neg hmask]
      exact next_request hroom (State.hubCommand_of_badMask (Nat.le_of_not_lt hmask))
  · intro u wrong
    refine ⟨fun hmask => ?_, fun hmask c hc => ?_⟩
    · have hwrong {accepts : HubState → Bool} {check : State → Option (Result × HubDetail)}
          {act : State → State} (h : accepts u.ctrl.st = false) :
          Host.Outcome.next (request dt 0x01 tag (State.hubCommand q accepts check act) s) = wrong :=
        next_request hroom (State.hubCommand_of_refused hmask h)
      refine ⟨fun hst => hwrong ?_, fun hst => hwrong ?_, fun hst => hwrong ?_, fun hrampIn hlive => hwrong ?_,
        fun hpaused hrampOut => hwrong ?_, fun hst => hwrong ?_⟩
      · obtain hst | hst | hst := hst <;> rw [hst] <;> rfl
      · simpa using hst
      · simpa using hst
      · simp [hrampIn, hlive]
      · simp [hpaused, hrampOut]
      · simpa using hst
    · have hbad {accepts : HubState → Bool} {check : State → Option (Result × HubDetail)}
          {act : State → State} :
          Host.Outcome.next (φ := Fault) (ρ := Refusal) (request dt 0x01 tag (State.hubCommand q accepts check act) s) =
            .next (u.hubReplied tag .badValue .none) :=
        next_request hroom (State.hubCommand_of_badMask hmask)
      simp only [List.mem_cons, List.not_mem_nil, or_false] at hc
      obtain rfl | rfl | rfl | rfl | rfl | rfl := hc <;> exact hbad

/-- Settles O14. -/
theorem armChecksTheConfiguration : Obligations.ArmChecksTheConfiguration := by
  unfold Obligations.ArmChecksTheConfiguration
  refine ⟨State.configFault_eq_none_iff, fun dt tag q s item hroom hmask hst hfault => ?_⟩
  exact next_request hroom
    (State.hubCommand_of_failed hmask (by simp [hst]) (by simp [State.configCheck, hfault]))

/-- Settles O16: one command of motion, whose check is readiness. -/
theorem goAndResumeBringMotion : Obligations.GoAndResumeBringMotion := by
  unfold Obligations.GoAndResumeBringMotion
  refine ⟨fun dt tag q s hroom hmask => ?_, fun dt tag q s hroom hmask => ?_⟩
  · intro u rampIn rampOut new f ready hst
    have haccepts : decide (u.ctrl.st = .armed) = true := by simp [hst]
    refine ⟨fun hready => ?_, fun hready => ?_⟩
    · have hcheck : u.goCheck = none := if_pos (u.readyToGo_iff.mpr hready)
      refine ⟨_, next_request hroom (State.hubCommand_of_taken hmask haccepts hcheck), ?_⟩
      rw [← hst]
      exact u.motion_replied q tag
    · have hcheck : u.goCheck = some (.notReady, .notReady u.clock.st u.notRunning) :=
        if_neg (mt u.readyToGo_iff.mp hready)
      exact next_request hroom (State.hubCommand_of_failed hmask haccepts hcheck)
  · intro u rampIn rampOut new f ready hst
    have haccepts : (decide (u.ctrl.st = .paused) || decide (u.ctrl.st = .rampOut)) = true := by
      simpa using hst
    refine ⟨fun hready => ?_, fun hready => ?_⟩
    · have hcheck : u.resumeCheck = none := if_pos (u.readyToResume_iff.mpr hready)
      exact ⟨_, next_request hroom (State.hubCommand_of_taken hmask haccepts hcheck),
        u.motion_replied q tag⟩
    · have hcheck : u.resumeCheck = some (.notReady, .notReady u.clock.st u.notRunning) :=
        if_neg (mt u.readyToResume_iff.mp hready)
      exact next_request hroom (State.hubCommand_of_failed hmask haccepts hcheck)

end

/-! ### The lines, port by port

What falls past its latest start, and what starts, on one port depends on that port alone, and on the event
queue as the port sees it. -/

namespace Sys2Proof.Machine

/-- The claim of the CUE packet that is due (R108, R127). -/
def BoardPort.cueClaim (b : BoardPort) : List (Instant × Claim) :=
  match b.sched with
  | some sc => if sc.due then [(sc.latest, .cue)] else []
  | none => []

namespace State

variable {s : State} {p q : Port}

/-! #### Starts leave the other ports alone -/

@[simp] theorem launch_port_same (k : Packet) (s : State) :
    (s.launch p k).port p = { s.port p with inFlight := some ⟨k, s.now, 0⟩ } := by
  simp [launch]

theorem launch_port_other (k : Packet) (h : q ≠ p) (s : State) : (s.launch p k).port q = s.port q := by
  simp [launch, withPort_port, h]

theorem skipOne_port (sc : Schedule) (s : State) (q : Port) :
    (s.skipOne p sc).port q = if q = p then (s.port p).skipFrame s.clock sc else s.port q := by
  rw [← withPort_port]
  unfold skipOne
  dsimp only
  split
  · exact port_of_ports_eq (by simp) q
  · rfl

theorem skipPast_port_other (n : Nat) (h : q ≠ p) (s : State) : (s.skipPast p n).port q = s.port q := by
  induction n generalizing s with
  | zero => rfl
  | succ n ih =>
    unfold skipPast
    split
    · split
      · rw [ih, skipOne_port, if_neg h]
      · rfl
    · rfl

/-- A scheduler whose latest start is not past skips nothing. -/
theorem skipPast_of_not_past (n : Nat) (h : ∀ sc, (s.port p).sched = some sc → past sc.latest s.now = false) :
    s.skipPast p n = s := by
  cases n with
  | zero => rfl
  | succ n =>
    unfold skipPast
    split
    · next sc hsc => simp [h sc hsc]
    · rfl

/-- The skips move the scheduler and its count alone. -/
theorem skipPast_port_same (n : Nat) (s : State) :
    ∃ sched count, (s.skipPast p n).port p = { s.port p with sched := sched, skipCount := count } := by
  induction n generalizing s with
  | zero => exact ⟨_, _, rfl⟩
  | succ n ih =>
    unfold skipPast
    split
    · split
      · next sc _ _ =>
        obtain ⟨sched, count, h⟩ := ih (s.skipOne p sc)
        refine ⟨sched, count, ?_⟩
        rw [h, skipOne_port, if_pos rfl]
        rfl
      · exact ⟨_, _, rfl⟩
    · exact ⟨_, _, rfl⟩

theorem startClaim_port_other (c : Claim) (h : q ≠ p) (s : State) :
    (s.startClaim p c).port q = s.port q := by
  have hports {u : State} (hu : u.ports = s.ports) : u.port q = s.port q := port_of_ports_eq hu q
  cases c
  case continuation k => simp [startClaim, startContinuation, launch, withPort_port, h]
  case event tag =>
    unfold startClaim startEvent
    dsimp only
    split
    · rw [launch_port_other _ h]
      exact hports (by simp)
    · rfl
  case cue =>
    unfold startClaim startCue
    dsimp only
    split
    · rfl
    · rw [skipPast_port_other _ h]
      simp only [withPort_port, h, if_false, launch]
      exact hports (by simp)
  case neutral =>
    unfold startClaim startNeutral
    dsimp only
    split
    · simp [launch, withPort_port, h]
    · rfl
  case echo =>
    unfold startClaim startEcho
    dsimp only
    split
    · simp [launch, withPort_port, h]
    · rfl

theorem grant_port_other (h : q ≠ p) (s : State) : (s.grant p).port q = s.port q := by
  unfold grant
  split
  · split
    · exact startClaim_port_other _ h s
    · rfl
  · rfl

/-! #### The port before its arbiter decides -/

@[simp] theorem expireConts_port (s : State) :
    (s.expireConts p).port q =
      if q = p then
        { s.port p with
          conts := (s.port p).conts.filter (fun k => !past (k.latest.getD s.now) s.now)
          partialCount :=
            countUp 65535
              ((s.port p).conts.filter (fun k => past (k.latest.getD s.now) s.now)).length
              (s.port p).partialCount }
      else s.port q := withPort_port _ _ _ _

theorem expirePort_port_other (h : q ≠ p) (s : State) : (s.expirePort p).port q = s.port q := by
  unfold expirePort
  rw [expireConts_port, if_neg h, skipPast_port_other _ h]

theorem skipPast_port_congr (n : Nat) {s t : State} (hport : t.port p = s.port p) (hclock : t.clock = s.clock) :
    (t.skipPast p n).port p = (s.skipPast p n).port p := by
  induction n generalizing s t with
  | zero => exact hport
  | succ n ih =>
    have hnow : t.now = s.now := congrArg Clock.cueTime hclock
    unfold skipPast
    rw [hport, hnow]
    split
    · split
      · refine ih ?_ (by simpa using hclock)
        rw [skipOne_port, skipOne_port, if_pos rfl, if_pos rfl, hport, hclock]
      · exact hport
    · exact hport

theorem expirePort_port_congr {s t : State} (hport : t.port p = s.port p) (hclock : t.clock = s.clock) :
    (t.expirePort p).port p = (s.expirePort p).port p := by
  unfold expirePort
  have hnow {u : State} (hu : u.clock = s.clock) : (u.skipPast p Config.frameFuel).now = s.now := by
    simp [State.now, hu]
  rw [expireConts_port, expireConts_port, if_pos rfl, if_pos rfl, skipPast_port_congr _ hport hclock,
    hnow hclock, hnow rfl]

theorem expireAll_port (s : State) (p : Port) : s.expireAll.port p = (s.expirePort p).port p := by
  have hevents (u : State) : u.expireEvents.port p = u.port p := port_of_ports_eq (by simp) p
  unfold expireAll
  rw [hevents]
  cases p
  · rw [expirePort_port_other (by simp), expirePort_port_other (by simp)]
  · rw [expirePort_port_other (by simp)]
    exact expirePort_port_congr (expirePort_port_other (by simp) s) (by simp)
  · refine expirePort_port_congr ?_ (by simp)
    rw [expirePort_port_other (by simp), expirePort_port_other (by simp)]

/-- On a port where nothing is past its latest start nothing is withdrawn. -/
theorem expirePort_port_of_not_past
    (hsched : ∀ sc, (s.port p).sched = some sc → past sc.latest s.now = false)
    (hconts : ∀ k ∈ (s.port p).conts, past (k.latest.getD s.now) s.now = false) :
    (s.expirePort p).port p =
      { s.port p with partialCount := min 65535 (s.port p).partialCount } := by
  have hkeep : (s.port p).conts.filter (fun k => !past (k.latest.getD s.now) s.now) = (s.port p).conts :=
    List.filter_eq_self.mpr fun k hk => by simp [hconts k hk]
  have hgone : (s.port p).conts.filter (fun k => past (k.latest.getD s.now) s.now) = [] :=
    List.filter_eq_nil_iff.mpr fun k hk => by simp [hconts k hk]
  unfold expirePort
  rw [skipPast_of_not_past _ hsched, expireConts_port, if_pos rfl, hkeep, hgone]
  simp [countUp]

/-- What the withdrawals may move of a port. -/
theorem expirePort_port_same (s : State) (p : Port) :
    ∃ sched skips partials,
      (s.expirePort p).port p =
        { s.port p with
          sched := sched
          skipCount := skips
          conts := (s.port p).conts.filter (fun k => !past (k.latest.getD s.now) s.now)
          partialCount := partials } := by
  obtain ⟨sched, skips, h⟩ := skipPast_port_same (p := p) Config.frameFuel s
  have hnow : (s.skipPast p Config.frameFuel).now = s.now := by simp [State.now]
  unfold expirePort
  rw [expireConts_port, if_pos rfl, h, hnow]
  exact ⟨_, _, _, rfl⟩

/-! #### The arbiter -/

theorem lineOpen_iff :
    s.lineOpen p = true ↔
      (s.port p).inFlight = none ∧ (s.port p).wait = false ∧ (s.port p).abort = false := by
  simp [lineOpen, Option.isNone_iff_eq_none, and_assoc]

theorem not_heldOff_iff {b : BoardPort} :
    ¬b.heldOff ↔ b.inFlight = none ∧ b.wait = false ∧ b.abort = false := by
  simp [BoardPort.heldOff]

theorem lineOpen_eq_false_iff : s.lineOpen p = false ↔ (s.port p).heldOff := by
  rw [← Bool.not_eq_true, lineOpen_iff, ← not_heldOff_iff, not_not]

theorem grant_of_heldOff (h : (s.port p).heldOff) : s.grant p = s := by
  simp [grant, lineOpen_eq_false_iff.mpr h]

theorem grant_of_choice (h : ¬(s.port p).heldOff) {c : Claim} (hc : s.chooseClaim p = some c) :
    s.grant p = s.startClaim p c := by
  have hopen : s.lineOpen p = true := lineOpen_iff.mpr (not_heldOff_iff.mp h)
  simp [grant, hopen, hc]

theorem grant_of_no_choice (h : s.chooseClaim p = none) : s.grant p = s := by
  unfold grant
  rw [h]
  split <;> rfl

/-- The CONTINUE, EVENT and CUE packets come before what has no latest start (R108). -/
theorem chooseClaim_of_no_claims (h : s.claims p = []) :
    s.chooseClaim p =
      if (s.port p).neutral.isSome then some .neutral
      else if (s.port p).echoDue.isSome then some .echo
      else none := by
  simp [chooseClaim, h, earliest]

theorem chooseClaim_of_one_claim {x : Instant × Claim} (h : s.claims p = [x]) :
    s.chooseClaim p = some x.2 := by
  simp [chooseClaim, h, earliest]

/-- The claims of a port, by its CONTINUE packets, its due EVENT packets and its CUE packet. -/
theorem claims_eq (s : State) (p : Port) :
    s.claims p =
      (s.port p).conts.map (fun k => (k.latest.getD s.now, .continuation k)) ++
        s.queue.flatMap (eventClaim p) ++ (s.port p).cueClaim := rfl

/-- No EVENT packet is due on the port. -/
def noEventDue (p : Port) (s : State) : Prop := ∀ e ∈ s.queue, eventClaim p e = []

theorem flatMap_eventClaim_of_noEventDue (h : s.noEventDue p) : s.queue.flatMap (eventClaim p) = [] :=
  List.flatMap_eq_nil_iff.mpr h

theorem eventClaim_of_done {e : Entry} (h : e.st = .done) : eventClaim p e = [] := by
  simp [eventClaim, h]

theorem noEventDue_of_done (h : ∀ e ∈ s.queue, e.st = .done) : s.noEventDue p := fun e he =>
  eventClaim_of_done (h e he)

theorem noEventDue_of_queue_eq {t : State} (hq : t.queue = s.queue) (h : s.noEventDue p) :
    t.noEventDue p := by
  unfold noEventDue
  rwa [hq]

/-- An EVENT packet that the arbiter chooses is due. -/
theorem not_noEventDue_of_choice {tag : Byte} (h : s.chooseClaim p = some (.event tag)) :
    ¬s.noEventDue p := fun hnone => by
  unfold chooseClaim at h
  split at h
  · next c hc =>
    cases h
    obtain ⟨t, ht⟩ := earliest_mem hc
    rw [claims_eq, flatMap_eventClaim_of_noEventDue hnone] at ht
    simp only [List.append_nil, List.mem_append, List.mem_map] at ht
    obtain ⟨k, -, hk⟩ | ht := ht
    · cases hk
    · unfold BoardPort.cueClaim at ht
      split at ht
      · split at ht <;> simp at ht
      · cases ht
  · split at h
    · cases h
    · split at h <;> cases h

/-- Only the start of an EVENT packet moves the queue. -/
theorem startClaim_queue {c : Claim} (hc : ∀ tag, c ≠ .event tag) (s : State) :
    (s.startClaim p c).queue = s.queue := by
  cases c
  case event tag => exact absurd rfl (hc tag)
  all_goals simp [startClaim]

theorem grant_queue (h : s.noEventDue p) : (s.grant p).queue = s.queue := by
  unfold grant
  split
  · split
    · next c hc =>
      refine startClaim_queue (fun tag htag => ?_) s
      exact not_noEventDue_of_choice (htag ▸ hc) h
    · rfl
  · rfl

/-- The EVENT packets due on one port are as they were after another port's packet has started. -/
theorem eventClaim_startDestination (h : q ≠ p) (tag : Byte) (s : State) (e : Entry) :
    eventClaim q (e.mapActive fun e d =>
      if e.tag = tag ∧ d.port = p then startDestination e s d else d) = eventClaim q e := by
  by_cases ha : e.st = .active
  · rw [Entry.mapActive_of_active ha]
    simp only [eventClaim, ha, if_true, List.filterMap_map]
    refine List.filterMap_congr fun d _ => ?_
    dsimp only [Function.comp_apply]
    by_cases hd : e.tag = tag ∧ d.port = p
    · rw [if_pos hd]
      have hport : (startDestination e s d).port = p := by
        unfold startDestination
        split <;> exact hd.2
      have hne : (startDestination e s d).port ≠ q := by rw [hport]; exact fun hpq => h hpq.symm
      have hne' : d.port ≠ q := by rw [hd.2]; exact fun hpq => h hpq.symm
      simp only [hne, hne', if_false]
      split <;> split <;> rfl
    · rw [if_neg hd]
  · simp [Entry.mapActive, ha]

theorem noEventDue_grant (h : q ≠ p) (hq : s.noEventDue q) : (s.grant p).noEventDue q := by
  have hkeep {u : State} (hu : u.queue = s.queue) : u.noEventDue q := noEventDue_of_queue_eq hu hq
  unfold grant
  split
  · split
    · next c _ =>
      cases c
      case event tag =>
        unfold startClaim startEvent
        dsimp only
        split
        · intro e he
          simp only [launch_frame, mapDests_queue, List.mem_map] at he
          obtain ⟨x, hx, rfl⟩ := he
          rw [eventClaim_startDestination h]
          exact hq x hx
        · exact hq
      all_goals exact hkeep (startClaim_queue (by simp) s)
    · exact hq
  · exact hq

/-! #### The end of an event, at one port -/

theorem feeds_port {r : Route} {n : Nat} (h : r.feeds p n = true) : r.port = some p := by
  simp [Route.feeds] at h
  exact h.1

/-- A start builds no route but those of its own port (R64). -/
theorem grant_routes_other {i : Fin 64} (h : (s.routes[i]).port ≠ some p) :
    (s.grant p).routes[i] = s.routes[i] := by
  have hkeep {u : State} (hu : u.routes = s.routes) : u.routes[i] = s.routes[i] := by rw [hu]
  unfold grant
  split
  · split
    · next c _ =>
      cases c
      case cue =>
        unfold startClaim startCue
        dsimp only
        split
        · rfl
        · simp only [skipPast_frame, withPort_routes, launch_frame, withRoutes_routes, buildRoutes_get]
          exact if_neg fun hf => h (feeds_port hf)
      all_goals exact hkeep (by simp [startClaim])
    · rfl
  · rfl

/-- The state in which the arbiter of port `p` decides at the end of an event: what it sees of the rest of the
hub is as it was, but for what has passed its latest start. -/
structure Deciding (p : Port) (s v : State) : Prop where
  port : v.port p = (s.expirePort p).port p
  clock : v.clock = s.clock
  ctrl : v.ctrl = s.ctrl
  channels : v.channels = s.channels
  gens : v.gens = s.gens
  routes : ∀ i : Fin 64, (s.routes[i]).port = some p → v.routes[i] = s.routes[i]
  claimed : v.claimed = s.claimed
  quiet : s.expireAll.noEventDue p → v.noEventDue p
  queue : (∀ q, q ≠ p → s.expireAll.noEventDue q) → v.queue = s.expireAll.queue

theorem deciding_expireAll (s : State) (p : Port) : Deciding p s s.expireAll where
  port := s.expireAll_port p
  clock := by simp
  ctrl := by simp
  channels := by simp
  gens := by simp
  routes i _ := by simp
  claimed := claimed_of_routes_eq (by simp)
  quiet := id
  queue _ := rfl

theorem Deciding.grant {v : State} (h : Deciding p s v) (hq : q ≠ p)
    (hnone : s.expireAll.noEventDue q → v.noEventDue q) : Deciding p s (v.grant q) where
  port := (grant_port_other hq.symm v).trans h.port
  clock := by simpa using h.clock
  ctrl := by simpa using h.ctrl
  channels := by simpa using h.channels
  gens := by simpa using h.gens
  routes i hi := by
    have hv : (v.routes[i]).port = some p := (congrArg (·.port) (h.routes i hi)).trans hi
    rw [grant_routes_other (by rw [hv]; simpa using hq.symm), h.routes i hi]
  claimed := (v.claimed_grant q).trans h.claimed
  quiet hp := noEventDue_grant hq.symm (h.quiet hp)
  queue hothers := by rw [grant_queue (hnone (hothers q hq)), h.queue hothers]

/-- At the end of an event a port is as its own arbiter leaves it. -/
structure FinishedAt (p : Port) (s v t : State) : Prop where
  port : t.port p = (v.grant p).port p
  routes : ∀ i : Fin 64, (s.routes[i]).port = some p → t.routes[i] = (v.grant p).routes[i]
  queue : (∀ q, q ≠ p → s.expireAll.noEventDue q) → t.queue = (v.grant p).queue

theorem FinishedAt.grant {v t : State} (h : FinishedAt p s v t) (hq : q ≠ p)
    (hroutes : ∀ i : Fin 64, (s.routes[i]).port = some p → (t.routes[i]).port ≠ some q)
    (hnone : (∀ q, q ≠ p → s.expireAll.noEventDue q) → t.noEventDue q) :
    FinishedAt p s v (t.grant q) where
  port := (grant_port_other hq.symm t).trans h.port
  routes i hi := (grant_routes_other (hroutes i hi)).trans (h.routes i hi)
  queue hothers := (grant_queue (hnone hothers)).trans (h.queue hothers)

theorem route_port_of_claimed {t : State} (h : t.claimed = s.claimed) (hq : q ≠ p) (i : Fin 64)
    (hi : (s.routes[i]).port = some p) : (t.routes[i]).port ≠ some q := by
  have hport : (t.routes[i]).port = (s.routes[i]).port := congrArg (fun f => (f i).1) h
  rw [hport, hi]
  simpa using hq.symm

theorem finishLines_at (s : State) (p : Port) :
    ∃ v, Deciding p s v ∧ FinishedAt p s v s.finishLines := by
  have hall := deciding_expireAll s
  generalize hu : s.expireAll = u at hall
  have hdone {q : Port} {v : State} (hv : v.claimed = s.claimed) (hq : q ≠ p) :=
    route_port_of_claimed hv hq
  have hclaimed := (hall p).claimed
  have hfinish : s.finishLines = ((u.grant .vision).grant .sound).grant .cab := by
    rw [← hu]
    rfl
  have hself (v : State) : FinishedAt p s v (v.grant p) := ⟨rfl, fun _ _ => rfl, fun _ => rfl⟩
  rw [hfinish]
  cases p
  · refine ⟨u, hall _, ?_⟩
    refine ((hself u).grant (q := .sound) (by simp) (hdone ?_ (by simp)) ?_).grant (by simp)
      (hdone ?_ (by simp)) ?_
    · simpa using hclaimed
    · exact fun h => noEventDue_grant (by simp) (hu ▸ h .sound (by simp))
    · simpa using hclaimed
    · exact fun h => noEventDue_grant (by simp) (noEventDue_grant (by simp) (hu ▸ h .cab (by simp)))
  · refine ⟨u.grant .vision, (hall _).grant (by simp) (fun h => hu ▸ h), ?_⟩
    refine (hself _).grant (by simp) (hdone ?_ (by simp)) ?_
    · simpa using hclaimed
    · exact fun h => noEventDue_grant (by simp) (noEventDue_grant (by simp) (hu ▸ h .cab (by simp)))
  · refine ⟨(u.grant .vision).grant .sound, ?_, hself _⟩
    exact ((hall _).grant (by simp) (fun h => hu ▸ h)).grant (by simp)
      fun h => noEventDue_grant (by simp) (hu ▸ h)

end State
end Sys2Proof.Machine

/-! ### What a port's line takes at the end of an event (R108) -/

namespace Sys2Proof.Machine

theorem Entry.close_of_done {e : Entry} (h : e.st = .done) : e.close = e := by
  simp [Entry.close, Entry.finished, h]

theorem List.map_eq_self_of_forall {α : Type} {f : α → α} {xs : List α} (h : ∀ x ∈ xs, f x = x) :
    xs.map f = xs :=
  (List.map_congr_left h).trans (List.map_id' xs)

/-- What a port keeps while packets wait, start and end on its line. -/
structure BoardPort.Steady (b c : BoardPort) : Prop where
  st : c.st = b.st
  cfg : c.cfg = b.cfg
  echo : c.echo = b.echo
  wait : c.wait = b.wait
  abort : c.abort = b.abort
  rxErrors : c.rxErrors = b.rxErrors
  inbound : c.inbound = b.inbound
  openedAt : c.openedAt = b.openedAt
  window : c.window = b.window
  latCue : c.latCue = b.latCue
  latEvent : c.latEvent = b.latEvent

namespace BoardPort

theorem steady_iff {b c : BoardPort} :
    b.Steady c ↔ c.st = b.st ∧ c.cfg = b.cfg ∧ c.echo = b.echo ∧ c.wait = b.wait ∧ c.abort = b.abort ∧
      c.rxErrors = b.rxErrors ∧ c.inbound = b.inbound ∧ c.openedAt = b.openedAt ∧
      c.window = b.window ∧ c.latCue = b.latCue ∧ c.latEvent = b.latEvent := by
  refine ⟨fun h => ⟨h.st, h.cfg, h.echo, h.wait, h.abort, h.rxErrors, h.inbound, h.openedAt, h.window,
    h.latCue, h.latEvent⟩, fun h => ?_⟩
  obtain ⟨h1, h2, h3, h4, h5, h6, h7, h8, h9, h10, h11⟩ := h
  exact ⟨h1, h2, h3, h4, h5, h6, h7, h8, h9, h10, h11⟩

theorem Steady.refl (b : BoardPort) : b.Steady b := by simp [steady_iff]

theorem Steady.trans {b c d : BoardPort} (h : b.Steady c) (h' : c.Steady d) : b.Steady d :=
  ⟨h'.st.trans h.st, h'.cfg.trans h.cfg, h'.echo.trans h.echo, h'.wait.trans h.wait,
    h'.abort.trans h.abort, h'.rxErrors.trans h.rxErrors, h'.inbound.trans h.inbound,
    h'.openedAt.trans h.openedAt, h'.window.trans h.window, h'.latCue.trans h.latCue,
    h'.latEvent.trans h.latEvent⟩

end BoardPort

namespace State

variable {s : State} {p : Port}

/-! #### Withdrawn events -/

theorem expireAll_queue (s : State) :
    s.expireAll.queue =
      s.queue.map fun e => (e.mapActive fun _ => Destination.expire s.now).close := by
  simp [expireAll, expireEvents, State.now, Function.comp_def]

/-- DONE entries are past their latest starts. -/
theorem expireAll_queue_of_done (h : ∀ e ∈ s.queue, e.st = .done) : s.expireAll.queue = s.queue := by
  rw [expireAll_queue]
  refine List.map_eq_self_of_forall fun e he => ?_
  rw [Entry.mapActive_of_done (h e he), Entry.close_of_done (h e he)]

theorem noEventDue_expireAll_of_done (h : ∀ e ∈ s.queue, e.st = .done) : s.expireAll.noEventDue p :=
  noEventDue_of_done (by rwa [expireAll_queue_of_done h])

theorem noEventDue_expireAll_of_empty (h : s.queue = []) : s.expireAll.noEventDue p :=
  noEventDue_expireAll_of_done (by simp [h])

/-- Where every event is DONE the end of an event leaves the queue as it is. -/
theorem finishLines_queue_of_done (h : ∀ e ∈ s.queue, e.st = .done) : s.finishLines.queue = s.queue := by
  obtain ⟨v, hv, ht⟩ := s.finishLines_at .vision
  have hquiet (q : Port) : s.expireAll.noEventDue q := noEventDue_expireAll_of_done h
  have hvqueue := hv.queue fun q _ => hquiet q
  rw [ht.queue fun q _ => hquiet q, grant_queue (hv.quiet (hquiet _)), hvqueue, expireAll_queue_of_done h]

/-! #### A line that is taken or held off -/

@[simp] theorem mapDests_port (f : Entry → Destination → Destination) (s : State) :
    (s.mapDests f).port p = s.port p := rfl

theorem skipPast_steady (n : Nat) (s : State) : (s.port p).Steady ((s.skipPast p n).port p) := by
  obtain ⟨sched, skips, h⟩ := skipPast_port_same (p := p) n s
  rw [h]
  simp [BoardPort.steady_iff]

@[simp] theorem skipPast_inFlight (n : Nat) (s : State) :
    ((s.skipPast p n).port p).inFlight = (s.port p).inFlight := by
  obtain ⟨sched, skips, h⟩ := skipPast_port_same (p := p) n s
  rw [h]

theorem expirePort_steady (s : State) (p : Port) : (s.port p).Steady ((s.expirePort p).port p) := by
  obtain ⟨sched, skips, partials, h⟩ := s.expirePort_port_same p
  rw [h]
  simp [BoardPort.steady_iff]

@[simp] theorem expirePort_inFlight (s : State) (p : Port) :
    ((s.expirePort p).port p).inFlight = (s.port p).inFlight := by
  obtain ⟨sched, skips, partials, h⟩ := s.expirePort_port_same p
  rw [h]

section
variable {v : State} (hv : Deciding p s v)
include hv

theorem Deciding.now : v.now = s.now := congrArg Clock.cueTime hv.clock

theorem Deciding.port_of_not_past
    (hsched : ∀ sc, (s.port p).sched = some sc → past sc.latest s.now = false)
    (hconts : ∀ k ∈ (s.port p).conts, past (k.latest.getD s.now) s.now = false) :
    v.port p = { s.port p with partialCount := min 65535 (s.port p).partialCount } :=
  hv.port.trans (expirePort_port_of_not_past hsched hconts)

end

theorem heldOff_expirePort (s : State) (p : Port) :
    ((s.expirePort p).port p).heldOff ↔ (s.port p).heldOff := by
  obtain ⟨sched, skips, partials, h⟩ := s.expirePort_port_same p
  rw [h]

theorem Deciding.not_heldOff {v : State} (hv : Deciding p s v) (h : ¬(s.port p).heldOff) :
    ¬(v.port p).heldOff := by
  rw [hv.port, heldOff_expirePort]
  exact h

theorem finishLines_port_of_heldOff (h : (s.port p).heldOff) :
    s.finishLines.port p = (s.expirePort p).port p := by
  obtain ⟨v, hv, ht⟩ := s.finishLines_at p
  have hheld : (v.port p).heldOff := by
    rw [hv.port]
    exact (heldOff_expirePort s p).mpr h
  rw [ht.port, grant_of_heldOff hheld, hv.port]

/-- A scheduler on a line that is taken or held off keeps its schedule until its latest start is past. -/
theorem finishLines_sched_of_heldOff (h : (s.port p).heldOff)
    (hsched : ∀ sc, (s.port p).sched = some sc → past sc.latest s.now = false) :
    (s.finishLines.port p).sched = (s.port p).sched ∧
      (s.finishLines.port p).skipCount = (s.port p).skipCount := by
  rw [finishLines_port_of_heldOff h]
  unfold expirePort
  rw [skipPast_of_not_past _ hsched, expireConts_port, if_pos rfl]
  exact ⟨rfl, rfl⟩

/-- Of the CONTINUE packets that wait only those past their latest start leave a line that is taken or held
off (R137). -/
theorem finishLines_conts_of_heldOff (h : (s.port p).heldOff) :
    (s.finishLines.port p).conts =
      (s.port p).conts.filter fun k => !past (k.latest.getD s.now) s.now := by
  obtain ⟨sched, skips, partials, hport⟩ := s.expirePort_port_same p
  rw [finishLines_port_of_heldOff h, hport]

theorem startClaim_steady (c : Claim) (s : State) : (s.port p).Steady ((s.startClaim p c).port p) := by
  cases c
  case continuation k => simp [startClaim, startContinuation, BoardPort.steady_iff]
  case event tag =>
    unfold startClaim startEvent
    dsimp only
    split
    · rw [launch_port_same, mapDests_port]
      simp [BoardPort.steady_iff]
    · exact .refl _
  case cue =>
    unfold startClaim startCue
    dsimp only
    split
    · exact .refl _
    · refine BoardPort.Steady.trans ?_ (skipPast_steady _ _)
      simp [BoardPort.steady_iff]
  case neutral =>
    unfold startClaim startNeutral
    dsimp only
    split
    · simp [BoardPort.steady_iff]
    · exact .refl _
  case echo =>
    unfold startClaim startEcho
    dsimp only
    split
    · simp [BoardPort.steady_iff]
    · exact .refl _

theorem grant_steady (s : State) : (s.port p).Steady ((s.grant p).port p) := by
  unfold grant
  split
  · split
    · exact startClaim_steady _ s
    · exact .refl _
  · exact .refl _

/-- The end of an event moves what waits and what starts on the lines, and no more of a port. -/
theorem finishLines_steady (s : State) (p : Port) : (s.port p).Steady (s.finishLines.port p) := by
  obtain ⟨v, hv, ht⟩ := s.finishLines_at p
  have hexpire : (s.port p).Steady (v.port p) := by
    rw [hv.port]
    exact expirePort_steady s p
  rw [ht.port]
  exact hexpire.trans (grant_steady v)

/-- A packet that starts is in flight from now, with nothing delivered (R103). -/
theorem startClaim_inFlight (c : Claim) (s : State) :
    ((s.startClaim p c).port p).inFlight = (s.port p).inFlight ∨
      ∃ k, ((s.startClaim p c).port p).inFlight = some ⟨k, s.now, 0⟩ := by
  cases c
  case continuation k => exact .inr ⟨k, by simp [startClaim, startContinuation]⟩
  case event tag =>
    unfold startClaim startEvent
    dsimp only
    split
    · next k _ => exact .inr ⟨k, by simp [now]⟩
    · exact .inl rfl
  case cue =>
    unfold startClaim startCue
    dsimp only
    split
    · exact .inl rfl
    · rw [skipPast_inFlight, withPort_port_same, launch_port_same]
      exact .inr ⟨_, rfl⟩
  case neutral =>
    unfold startClaim startNeutral
    dsimp only
    split
    · next k _ => exact .inr ⟨k, by simp⟩
    · exact .inl rfl
  case echo =>
    unfold startClaim startEcho
    dsimp only
    split
    · exact .inr ⟨_, by simp; rfl⟩
    · exact .inl rfl

theorem finishLines_inFlight (s : State) (p : Port) :
    (s.finishLines.port p).inFlight = (s.port p).inFlight ∨
      (s.port p).inFlight = none ∧ ∃ k, (s.finishLines.port p).inFlight = some ⟨k, s.now, 0⟩ := by
  by_cases hheld : (s.port p).heldOff
  · rw [finishLines_port_of_heldOff hheld, expirePort_inFlight]
    exact .inl rfl
  · obtain ⟨v, hv, ht⟩ := s.finishLines_at p
    have hvfree : (v.port p).inFlight = (s.port p).inFlight := by rw [hv.port, expirePort_inFlight]
    rw [ht.port]
    unfold grant
    split
    · split
      · next c _ =>
        obtain h | ⟨k, hk⟩ := startClaim_inFlight (p := p) c v
        · exact .inl (h.trans hvfree)
        · rw [hv.now] at hk
          exact .inr ⟨(not_heldOff_iff.mp hheld).1, k, hk⟩
      · exact .inl hvfree
    · exact .inl hvfree

/-- A packet in flight runs on (R103). -/
theorem finishLines_of_inFlight {fl : InFlight} (h : (s.port p).inFlight = some fl) :
    (s.finishLines.port p).inFlight = some fl := by
  obtain hsame | ⟨hnone, -⟩ := s.finishLines_inFlight p
  · rw [hsame, h]
  · rw [h] at hnone
    cases hnone

/-! #### A free line on which one packet is due -/

/-- The scheduler has no CUE packet due, and none is past its latest start. -/
abbrev notDue (p : Port) (s : State) : Prop :=
  ∀ sc, (s.port p).sched = some sc → sc.due = false ∧ past sc.latest s.now = false

theorem notDue_of_none (h : (s.port p).sched = none) : s.notDue p := fun sc hsc => by
  rw [h] at hsc
  cases hsc

theorem cueClaim_of_notDue (h : s.notDue p) : (s.port p).cueClaim = [] := by
  unfold BoardPort.cueClaim
  split
  · next sc hsc => simp [(h sc hsc).1]
  · rfl

/-- With no CONTINUE, EVENT or CUE packet due a free line takes the NEUTRAL packet, or else the ECHO packet. -/
theorem finishLines_port_of_idle (hfree : ¬(s.port p).heldOff) (hsched : s.notDue p)
    (hconts : (s.port p).conts = []) (hquiet : s.expireAll.noEventDue p) :
    let b := { s.port p with partialCount := min 65535 (s.port p).partialCount }
    (∀ k, (s.port p).neutral = some k →
      s.finishLines.port p = { b with neutral := none, inFlight := some ⟨k, s.now, 0⟩ }) ∧
    ((s.port p).neutral = none →
      (∀ e, (s.port p).echoDue = some e →
        s.finishLines.port p =
          { b with
            echoDue := none
            inFlight := some ⟨echoPacket e.number (e.frame.getD s.clock.current), s.now, 0⟩ }) ∧
      ((s.port p).echoDue = none → s.finishLines.port p = b)) := by
  intro b
  obtain ⟨v, hv, ht⟩ := s.finishLines_at p
  have hb : v.port p = b :=
    hv.port_of_not_past (fun sc hsc => (hsched sc hsc).2) (by simp [hconts])
  have hclaims : v.claims p = [] := by
    have hsched' : v.notDue p := fun sc hsc => by
      rw [hv.now]
      exact hsched sc (by rwa [hb] at hsc)
    rw [claims_eq, cueClaim_of_notDue hsched', flatMap_eventClaim_of_noEventDue (hv.quiet hquiet), hb]
    simp [b, hconts]
  have hchoice := chooseClaim_of_no_claims hclaims
  have hopen := hv.not_heldOff hfree
  rw [hb] at hchoice
  have hneutral' : b.neutral = (s.port p).neutral := rfl
  have hecho' : b.echoDue = (s.port p).echoDue := rfl
  refine ⟨fun k hk => ?_, fun hnone => ⟨fun e he => ?_, fun he => ?_⟩⟩
  · have hvk : (v.port p).neutral = some k := by rw [hb, hneutral', hk]
    have hc : v.chooseClaim p = some .neutral := by rw [hchoice, hneutral', hk]; rfl
    rw [ht.port, grant_of_choice hopen hc]
    simp only [startClaim, startNeutral, hvk, launch_port_same, withPort_port_same]
    rw [hb]
    simp [hv.now]
  · have hve : (v.port p).echoDue = some e := by rw [hb, hecho', he]
    have hc : v.chooseClaim p = some .echo := by rw [hchoice, hneutral', hnone, hecho', he]; rfl
    rw [ht.port, grant_of_choice hopen hc]
    simp only [startClaim, startEcho, hve, launch_port_same, withPort_port_same]
    rw [hb]
    simp [hv.now, hv.clock]
  · have hc : v.chooseClaim p = none := by rw [hchoice, hneutral', hnone, hecho', he]; rfl
    rw [ht.port, grant_of_no_choice hc, hb]

/-- A CONTINUE packet that alone is due starts (R106). -/
theorem finishLines_port_of_continuation {k : Packet} (hfree : ¬(s.port p).heldOff) (hsched : s.notDue p)
    (hconts : (s.port p).conts = [k]) (hlatest : past (k.latest.getD s.now) s.now = false)
    (hquiet : s.expireAll.noEventDue p) :
    (s.finishLines.port p).inFlight = some ⟨k, s.now, 0⟩ ∧ (s.finishLines.port p).conts = [] := by
  obtain ⟨v, hv, ht⟩ := s.finishLines_at p
  have hb := hv.port_of_not_past (fun sc hsc => (hsched sc hsc).2) (by simp [hconts, hlatest])
  have hclaims : v.claims p = [(k.latest.getD s.now, .continuation k)] := by
    have hsched' : v.notDue p := fun sc hsc => by
      rw [hv.now]
      exact hsched sc (by rwa [hb] at hsc)
    rw [claims_eq, cueClaim_of_notDue hsched', flatMap_eventClaim_of_noEventDue (hv.quiet hquiet), hb,
      hv.now]
    simp [hconts]
  rw [ht.port, grant_of_choice (hv.not_heldOff hfree) (chooseClaim_of_one_claim hclaims)]
  simp only [startClaim, startContinuation, launch_port_same, withPort_port_same]
  rw [hb]
  simp [hv.now, hconts]

end State
end Sys2Proof.Machine

/-! ### PAUSE and HALT (R26, R28, R32, R33) -/

namespace Sys2Proof.Machine

namespace State

variable {s : State} {p : Port}

/-! #### The flush of the event queue -/

theorem Destination.pending_drop (d : Destination) : d.drop.pending = false := by
  unfold Destination.drop
  split
  · rfl
  · next h => simpa using h

/-- The flush leaves no entry ACTIVE (R154, R155). -/
theorem flushEvents_done (s : State) : ∀ e ∈ s.flushEvents.queue, e.st = .done := by
  intro e he
  simp only [flushEvents, settle_queue, mapDests_queue, List.map_map, List.mem_map,
    Function.comp_apply] at he
  obtain ⟨x, -, rfl⟩ := he
  cases hx : x.st with
  | done => rw [Entry.mapActive_of_done hx, Entry.close_of_done hx, hx]
  | active =>
    have hfinished : (x.mapActive fun _ => Destination.drop).finished = true := by
      rw [Entry.finished_iff, Entry.mapActive_of_active hx]
      exact ⟨hx, by simp [Destination.pending_drop]⟩
    simp [Entry.close, hfinished]

theorem enterPaused_done (cause : StateCause) (s : State) : ∀ e ∈ (s.enterPaused cause).queue, e.st = .done :=
  flushEvents_done _

theorem enterHalted_done (reason : HaltReason) (cause : StateCause) (s : State) :
    ∀ e ∈ (s.enterHalted reason cause).queue, e.st = .done :=
  flushEvents_done _

/-! #### Lines without a scheduler -/

theorem expirePort_sched_of_none (h : (s.port p).sched = none) : ((s.expirePort p).port p).sched = none := by
  unfold expirePort
  rw [skipPast_of_not_past _ (by simp [h]), expireConts_port, if_pos rfl]
  exact h

/-- Without a scheduler no build is made (R64). -/
theorem grant_routes_of_no_sched (h : (s.port p).sched = none) : (s.grant p).routes = s.routes := by
  unfold grant
  split
  · split
    · next c _ =>
      cases c
      case cue => simp [startClaim, startCue, h]
      all_goals simp [startClaim]
    · rfl
  · rfl

theorem finishLines_routes_of_no_sched (h : ∀ p, (s.port p).sched = none) :
    s.finishLines.routes = s.routes := by
  have hall (p : Port) : (s.expireAll.port p).sched = none := by
    rw [expireAll_port, expirePort_sched_of_none (h p)]
  have hroutes : s.expireAll.routes = s.routes := by simp
  generalize hu : s.expireAll = u at hall hroutes
  have hfinish : s.finishLines = ((u.grant .vision).grant .sound).grant .cab := by
    rw [← hu]
    rfl
  rw [hfinish, grant_routes_of_no_sched, grant_routes_of_no_sched, grant_routes_of_no_sched (hall _), hroutes]
  · rw [grant_port_other (by simp)]
    exact hall _
  · rw [grant_port_other (by simp), grant_port_other (by simp)]
    exact hall _

/-- Without CONTINUE packets, a scheduler and due EVENT packets, none comes at the end of an event. -/
theorem finishLines_idle (hsched : (s.port p).sched = none) (hconts : (s.port p).conts = [])
    (hquiet : s.expireAll.noEventDue p) :
    (s.finishLines.port p).sched = none ∧ (s.finishLines.port p).conts = [] := by
  by_cases hheld : (s.port p).heldOff
  · rw [finishLines_port_of_heldOff hheld,
      expirePort_port_of_not_past (by simp [hsched]) (by simp [hconts])]
    exact ⟨hsched, hconts⟩
  · have hidle := finishLines_port_of_idle hheld (notDue_of_none hsched) hconts hquiet
    cases hneutral : (s.port p).neutral with
    | some k =>
      rw [hidle.1 k hneutral]
      exact ⟨hsched, hconts⟩
    | none =>
      cases hecho : (s.port p).echoDue with
      | some e =>
        rw [(hidle.2 hneutral).1 e hecho]
        exact ⟨hsched, hconts⟩
      | none =>
        rw [(hidle.2 hneutral).2 hecho]
        exact ⟨hsched, hconts⟩

/-! #### What kind of packet starts -/

theorem chooseClaim_continuation {k : Packet} (h : s.chooseClaim p = some (.continuation k)) :
    k ∈ (s.port p).conts := by
  unfold chooseClaim at h
  split at h
  · next c hc => exact mem_conts_of_earliest (hc.trans h)
  · split at h
    · cases h
    · split at h <;> cases h

/-- Where no EVENT packet is due, what is in flight was so before, or is no EVENT packet. -/
theorem finishLines_no_event (hconts : ∀ k ∈ (s.port p).conts, k.kind = .continuation)
    (hneutral : (s.port p).neutral = none) (hquiet : s.expireAll.noEventDue p)
    (hflight : ∀ fl, (s.port p).inFlight = some fl → fl.packet.kind ≠ .event) {fl : InFlight}
    (h : (s.finishLines.port p).inFlight = some fl) : fl.packet.kind ≠ .event := by
  by_cases hheld : (s.port p).heldOff
  · rw [finishLines_port_of_heldOff hheld, expirePort_inFlight] at h
    exact hflight fl h
  obtain ⟨v, hv, ht⟩ := s.finishLines_at p
  obtain ⟨sched, skips, partials, hport⟩ := s.expirePort_port_same p
  rw [← hv.port] at hport
  have hvflight : (v.port p).inFlight = (s.port p).inFlight := by rw [hport]
  have hvneutral : (v.port p).neutral = none := by rw [hport]; exact hneutral
  have hvconts : ∀ k ∈ (v.port p).conts, k ∈ (s.port p).conts := by
    rw [hport]
    exact fun k hk => (List.mem_filter.mp hk).1
  have hsame : (v.port p).inFlight = some fl → fl.packet.kind ≠ .event := fun h => hflight fl (hvflight ▸ h)
  rw [ht.port] at h
  unfold grant at h
  split at h
  · split at h
    · next c hc =>
      cases c
      case continuation k =>
        simp only [startClaim, startContinuation, launch_port_same, withPort_port_same, Option.some.injEq] at h
        rw [← h, hconts k (hvconts k (chooseClaim_continuation hc))]
        simp
      case event => exact absurd (hv.quiet hquiet) (not_noEventDue_of_choice hc)
      case cue =>
        unfold startClaim startCue at h
        dsimp only at h
        split at h
        · exact hsame h
        · rw [skipPast_inFlight, withPort_port_same, launch_port_same] at h
          rw [← Option.some.inj h]
          simp [cuePacket]
      case neutral =>
        simp only [startClaim, startNeutral, hvneutral] at h
        exact hsame h
      case echo =>
        unfold startClaim startEcho at h
        dsimp only at h
        split at h
        · simp only [launch_port_same, withPort_port_same, Option.some.injEq] at h
          rw [← h]
          simp [echoPacket]
        · exact hsame h
    · exact hsame h
  · exact hsame h

/-- PAUSED entry cuts the EVENT packet in flight on a port, and moves nothing else of the port. -/
theorem enterPaused_port (cause : StateCause) (s : State) (p : Port) :
    (s.enterPaused cause).port p =
      { s.port p with
        inFlight := (s.port p).inFlight.filter fun fl => decide (fl.packet.kind ≠ .event) } := by
  have hcut (u : State) (q : Port) : u.cutEvent q =
      u.withPort q
        { u.port q with
          inFlight := (u.port q).inFlight.filter fun fl => decide (fl.packet.kind ≠ .event) } := by
    unfold cutEvent
    split
    · next fl hfl =>
      split
      · next hkind => simp [cut, hfl, hkind, Option.filter_some]
      · next hkind =>
        have hsame : (u.port q).inFlight = (u.port q).inFlight.filter fun fl => decide (fl.packet.kind ≠ .event) := by
          simp [hfl, hkind, Option.filter_some]
        rw [← hsame]
        exact (u.withPort_self q).symm
    · next hfl =>
      have hsame : (u.port q).inFlight = (u.port q).inFlight.filter fun fl => decide (fl.packet.kind ≠ .event) := by
        simp [hfl]
      rw [← hsame]
      exact (u.withPort_self q).symm
  have hports (u : State) : (((u.cutEvent .vision).cutEvent .sound).cutEvent .cab).port p =
      { u.port p with
        inFlight := (u.port p).inFlight.filter fun fl => decide (fl.packet.kind ≠ .event) } := by
    simp only [hcut, withPort_port]
    cases p <;> rfl
  have hflush (u : State) : u.flushEvents.snapshotConditions.port p = u.port p :=
    port_of_ports_eq (by simp) p
  have hhub : (s.changeHub .paused s.ctrl.reason 0 cause).port p = s.port p := port_of_ports_eq (by simp) p
  rw [← hhub]
  exact (hflush _).trans (hports _)

/-- The level conditions take their snapshot (R169), and the rest of the cab stays. -/
theorem enterPaused_cab (cause : StateCause) (s : State) :
    (s.enterPaused cause).cab =
      { s.cab with conditions := mapTable (ResumeCondition.snapshot s.cab.previous) s.cab.conditions } := by
  have hsnapshot (u : State) (hu : u.cab = s.cab) : u.snapshotConditions.cab =
      { s.cab with conditions := mapTable (ResumeCondition.snapshot s.cab.previous) s.cab.conditions } := by
    rw [← hu]
    rfl
  exact hsnapshot _ (by simp)

/-- HALTED entry on a port that is RUNNING gives it its NEUTRAL packet (R33). -/
theorem enterHalted_port_eq (reason : HaltReason) (cause : StateCause) (s : State) (p : Port) :
    (s.enterHalted reason cause).port p =
      { s.port p with
        inFlight := none
        conts := []
        sched := none
        neutral := if (s.port p).st = .running then some (s.neutralPacket p) else (s.port p).neutral } := by
  have hport : (s.changeHub .halted reason 0 cause).port p = s.port p := port_of_ports_eq (by simp) p
  have hpacket : (s.changeHub .halted reason 0 cause).neutralPacket p = s.neutralPacket p := by
    simp [neutralPacket, degraded, hport]
  rw [enterHalted_port]
  simp only [haltPort, withPort_port_same, hport, hpacket]

@[simp] theorem replied_frame (kind tag : Byte) (result : Result) (body : ReplyBody) (s : State) :
    (s.replied kind tag result body).ctrl = s.ctrl ∧ (s.replied kind tag result body).channels = s.channels ∧
    (s.replied kind tag result body).discards = s.discards ∧
    (s.replied kind tag result body).routes = s.routes ∧ (s.replied kind tag result body).gens = s.gens ∧
    (s.replied kind tag result body).ports = s.ports ∧ (s.replied kind tag result body).queue = s.queue ∧
    (s.replied kind tag result body).cab = s.cab ∧ (s.replied kind tag result body).inReset = s.inReset ∧
    (s.replied kind tag result body).choices = s.choices ∧
    (s.replied kind tag result body).pending = s.pending ∧
    (s.replied kind tag result body).ownTime = s.ownTime := by
  simp [replied]

theorem replied_routes (kind tag : Byte) (result : Result) (body : ReplyBody) (s : State) :
    (s.replied kind tag result body).routes = s.routes := by simp

@[simp] theorem replied_port (kind tag : Byte) (result : Result) (body : ReplyBody) (s : State) (p : Port) :
    (s.replied kind tag result body).port p = s.port p := port_of_ports_eq (by simp) p

theorem notes_replied (kind tag : Byte) (result : Result) (body : ReplyBody) (s : State) :
    Notes [] s (s.replied kind tag result body) := s.notes_pushReply [] _

/-- The ramp fields of a command, merged (R20). -/
@[simp] theorem writeRamps_ctrl (q : RampRequest) (s : State) :
    (s.writeRamps q).ctrl =
      { s.ctrl with
        rampIn := if q.mask.getLsbD 0 then q.rampIn.toNat else s.ctrl.rampIn
        rampOut := if q.mask.getLsbD 1 then q.rampOut.toNat else s.ctrl.rampOut } := rfl

/-- The rest values of a port in send order (R33, R100). -/
theorem restValues_eq (routes : Vector Route 64) (p : Port) (cfg : PortConfig) :
    restValues routes p cfg =
      (List.range cfg.slots).map fun j =>
        slotValue routes.toList (·.rest) p ((cfg.leadSlot + j) % cfg.slots) := by
  simp [restValues, sendOrder, Function.comp_def]

end State
end Sys2Proof.Machine

section
open Sys2Proof Sys2Proof.Machine

/-- Settles O17: RAMP_OUT, or PAUSED entry with its flush, its cuts and its snapshot (R26, R32). -/
theorem pauseRampsOutOrEntersPaused : Obligations.PauseRampsOutOrEntersPaused := by
  unfold Obligations.PauseRampsOutOrEntersPaused
  intro dt tag q s hroom hmask u rampIn rampOut hst
  have haccepts : (decide (u.ctrl.st = .rampIn) || decide (u.ctrl.st = .live)) = true := by simpa using hst
  have hexec := next_request (tag := tag) (kind := 0x01) hroom
    (State.hubCommand_of_taken (accepts := fun st => decide (st = .rampIn) || decide (st = .live))
      (act := State.actPause) hmask haccepts (State.noCheck.eq_1 u))
  refine ⟨_, hexec, ?_⟩
  by_cases hramp : rampOut = 0
  · have hact : State.actPause (u.writeRamps q) = ((u.writeRamps q).enterPaused .command).finishLines :=
      if_pos hramp
    rw [hact]
    generalize hv : (u.writeRamps q).enterPaused .command = v
    have hdone : ∀ e ∈ v.queue, e.st = .done := hv ▸ State.enterPaused_done .command _
    have hbody : v.finishLines.ctrl = ⟨.paused, u.ctrl.reason, 0, rampIn, rampOut⟩ := by
      rw [← hv]
      simp [rampIn, rampOut]
    refine ⟨by simp [← hv, State.writeRamps], by simp [← hv, State.writeRamps],
      by simp [← hv, State.writeRamps], by simp [← hv, State.writeRamps],
      fun h => absurd hramp h, fun _ => ⟨by simpa using hbody, ?_, fun p hconts hneutral fl hfl => ?_,
        ?_, ?_, fun i => ?_, fun hbusy => ?_⟩⟩
    · simpa [State.finishLines_queue_of_done hdone] using hdone
    · have hport : v.port p =
          { u.port p with
            inFlight := (u.port p).inFlight.filter fun fl => decide (fl.packet.kind ≠ .event) } := by
        rw [← hv]
        exact State.enterPaused_port .command (u.writeRamps q) p
      rw [State.replied_port] at hfl
      refine State.finishLines_no_event (by rwa [hport]) (by rwa [hport])
        (State.noEventDue_expireAll_of_done hdone) (fun fl' hfl' => ?_) hfl
      rw [hport] at hfl'
      simpa using (Option.filter_eq_some_iff.mp hfl').2
    · simp [← hv, State.enterPaused_cab, State.writeRamps]
    · simp [← hv, State.writeRamps]
    · simp only [State.replied_frame, State.finishLines_frame, ← hv, State.enterPaused_cab,
        Fin.getElem_fin, mapTable_getElem]
      rfl
    · have hpaused := State.enterPaused_stateSlot (s := u.writeRamps q) .command hbusy
      have hvbusy : v.link.tx ≠ .idle := hv ▸ (State.notes_enterPaused (u.writeRamps q) .command).busy hbusy
      rw [hv] at hpaused
      have hfbusy := v.notes_finishLines.busy hvbusy
      rw [(State.notes_replied _ _ _ _ _).state hfbusy, v.notes_finishLines.state hvbusy, hpaused]
      rfl
  · have hact : State.actPause (u.writeRamps q) =
        (u.writeRamps q).changeHub .rampOut u.ctrl.reason u.ctrl.f .command := if_neg hramp
    rw [hact]
    refine ⟨rfl, rfl, rfl, rfl, fun _ => ⟨rfl, fun hbusy => ?_⟩, fun h => absurd h hramp⟩
    have hslot := State.changeHub_of_busy (s := u.writeRamps q) .rampOut u.ctrl.reason u.ctrl.f .command hbusy
    have hcbusy := ((u.writeRamps q).notes_changeHub .rampOut u.ctrl.reason u.ctrl.f .command).busy hbusy
    rw [(State.notes_replied _ _ _ _ _).state hcbusy, hslot]
    rfl

/-- Settles O18: HALTED entry, then each RUNNING port's line takes its NEUTRAL packet (R33). -/
theorem haltSendsRestValues : Obligations.HaltSendsRestValues := by
  unfold Obligations.HaltSendsRestValues
  intro dt tag q s hroom hmask u rampIn rampOut
  have hexec (hst : u.ctrl.st ≠ .setup) := next_request (tag := tag) (kind := 0x01) hroom
    (State.hubCommand_of_taken (accepts := fun st => decide (st ≠ .setup)) (act := State.actHalt) hmask
      (decide_eq_true hst) (State.noCheck.eq_1 u))
  refine ⟨fun hst => ?_, fun hhalted hsetup => ⟨_, hexec hsetup, ?_⟩⟩
  · have hact : State.actHalt (u.writeRamps q) = u.writeRamps q := if_pos hst
    refine (hexec (by simp [hst])).trans ?_
    rw [hact]
    rfl
  · have hact : State.actHalt (u.writeRamps q) =
        ((u.writeRamps q).enterHalted .command .command).finishLines := if_neg hhalted
    rw [hact]
    generalize hv : (u.writeRamps q).enterHalted .command .command = v
    have hdone : ∀ e ∈ v.queue, e.st = .done := hv ▸ State.enterHalted_done .command .command _
    have hport (p : Port) := State.enterHalted_port_eq .command .command (u.writeRamps q) p
    rw [hv] at hport
    have hsched (p : Port) : (v.port p).sched = none := by rw [hport]
    have hconts (p : Port) : (v.port p).conts = [] := by rw [hport]
    have hquiet (p : Port) : v.expireAll.noEventDue p := State.noEventDue_expireAll_of_done hdone
    have hctrl : v.ctrl = ⟨.halted, .command, 0, rampIn, rampOut⟩ := by
      rw [← hv]
      simp [rampIn, rampOut]
    have hfctrl : v.finishLines.ctrl = ⟨.halted, .command, 0, rampIn, rampOut⟩ := by simpa using hctrl
    have hreplies : v.finishLines.link.replies = u.link.replies := by simp [← hv, State.writeRamps]
    refine ⟨by simpa using hfctrl, ?_, fun p => ?_, fun p hrunning => ?_, ?_, ?_, ?_, ?_, ?_, ?_, ?_⟩
    · simpa [State.finishLines_queue_of_done hdone] using hdone
    · have hsteady := v.finishLines_steady p
      obtain ⟨hs', hc'⟩ := State.finishLines_idle (hsched p) (hconts p) (hquiet p)
      rw [State.replied_port]
      exact ⟨hs', hc', by rw [hsteady.st, hport]; rfl, by rw [hsteady.echo, hport]; rfl⟩
    · intro n
      have hn : (v.port p).neutral = some n := by
        rw [hport]
        exact (if_pos hrunning).trans (congrArg some (by
        unfold State.neutralPacket
        rw [State.restValues_eq]
        rfl))
      have hnow : v.now = u.now := by simp [← hv, State.now, State.writeRamps]
      rw [State.replied_port]
      split
      · next hopen =>
        have hfree : ¬(v.port p).heldOff := by
          rw [hport, State.not_heldOff_iff]
          exact ⟨rfl, hopen⟩
        have hidle := (State.finishLines_port_of_idle hfree (State.notDue_of_none (hsched p)) (hconts p)
          (hquiet p)).1 n hn
        rw [hidle, hnow]
        exact ⟨rfl, rfl⟩
      · next hopen =>
        have hheld : (v.port p).heldOff := by
          rw [← not_not (a := BoardPort.heldOff _), State.not_heldOff_iff, hport]
          exact fun h => hopen h.2
        rw [State.finishLines_port_of_heldOff hheld, State.expirePort_port_of_not_past (by simp [hsched p])
          (by simp [hconts p])]
        exact ⟨by rw [hport], hn⟩
    · rw [State.replied_routes, State.finishLines_routes_of_no_sched hsched]
      simp [← hv, State.writeRamps]
    · simp [← hv, State.writeRamps]
    · simp [← hv, State.writeRamps]
    · simp [← hv, State.writeRamps]
    · simp [← hv, State.writeRamps]
    · simp [← hv, State.writeRamps]
    · rw [State.replied_replies, hreplies]
      simp [State.hubBody, hctrl, replyKind]

end

/-! ### SETUP entry and ARM (R22, R24) -/

namespace Sys2Proof.Machine

namespace State

variable {s : State}

/-! #### The PORT notices of an event that changes several ports -/

/-- The PORT notices of some ports, in their order. -/
def noteEach (old : Ports) (cause : PortCause) (ps : List Port) (s : State) : State :=
  ps.foldl (fun s p => s.notePort p (old.get p).st cause) s

theorem notePorts_eq_noteEach (old : Ports) (cause : PortCause) (s : State) :
    s.notePorts old cause = s.noteEach old cause [.vision, .sound, .cab] := rfl

theorem noteEach_append (old : Ports) (cause : PortCause) (ps qs : List Port) (s : State) :
    s.noteEach old cause (ps ++ qs) = (s.noteEach old cause ps).noteEach old cause qs :=
  List.foldl_append

theorem noteEach_ports (old : Ports) (cause : PortCause) (ps : List Port) (s : State) :
    (s.noteEach old cause ps).ports = s.ports ∧ (s.noteEach old cause ps).clock = s.clock := by
  induction ps generalizing s with
  | nil => exact ⟨rfl, rfl⟩
  | cons p ps ih => simpa [noteEach] using ih (s.notePort p (old.get p).st cause)

theorem notes_noteEach (old : Ports) (cause : PortCause) (ps : List Port) (s : State) :
    Notes [.port] s (s.noteEach old cause ps) := by
  induction ps generalizing s with
  | nil => exact .refl _ s
  | cons p ps ih => exact (notes_notePort s p (old.get p).st cause).trans (ih _)

theorem noteEach_of_same (old : Ports) (cause : PortCause) {ps : List Port}
    (h : ∀ p ∈ ps, (s.port p).st = (old.get p).st) : s.noteEach old cause ps = s := by
  induction ps with
  | nil => rfl
  | cons p ps ih =>
    have hp : s.notePort p (old.get p).st cause = s := if_pos (h p (by simp))
    have hps := ih fun q hq => h q (List.mem_cons_of_mem p hq)
    simpa [noteEach, hp] using hps

theorem portNotice_of_ports {t : State} (p : Port) (left : PortState) (cause : PortCause)
    (hports : t.ports = s.ports) (hclock : t.clock = s.clock) :
    t.portNotice p left cause = s.portNotice p left cause := by
  simp [portNotice, port_of_ports_eq hports, hports, hclock]

/-- The notice in the terms of the statements, by the ports as a later state has them (R119). -/
theorem portNotice_eq_portChange {t : State} {p : Port} {new left : PortState} {cause : PortCause}
    {lineDelay declared : Nat} (hports : ∀ p, (t.port p).st = (s.port p).st)
    (hclock : t.clock.current = s.clock.current) (hst : (s.port p).st = new)
    (hline : (s.port p).echo.lineDelay = lineDelay) (hdeclared : (s.port p).echo.declared = declared) :
    s.portNotice p left cause = portChange t p new left cause lineDelay declared := by
  simp only [portNotice, portChange, hports, hclock, hst, hline, hdeclared]
  rfl

/-- The PORT slot of a busy transmitter holds the notice of the last port that has changed (R119, R181). -/
theorem notePorts_portSlot (old : Ports) (cause : PortCause) (hbusy : s.link.tx ≠ .idle)
    {before after : List Port} {p : Port} (hps : [Port.vision, .sound, .cab] = before ++ p :: after)
    (hp : (s.port p).st ≠ (old.get p).st) (hafter : ∀ q ∈ after, (s.port q).st = (old.get q).st) :
    (s.notePorts old cause).link.slots.port.map (·.content) =
      some (s.portNotice p (old.get p).st cause) := by
  obtain ⟨hports, hclock⟩ := noteEach_ports old cause before s
  have hubusy := (notes_noteEach old cause before s).busy hbusy
  have hall : s.notePorts old cause =
      (((s.noteEach old cause before).notePort p (old.get p).st cause).noteEach old cause after) := by
    rw [notePorts_eq_noteEach, hps, noteEach_append]
    rfl
  rw [hall]
  generalize s.noteEach old cause before = u at hports hclock hubusy
  have hnote : u.notePort p (old.get p).st cause = u.placePort (u.portNotice p (old.get p).st cause) := by
    refine if_neg ?_
    rwa [port_of_ports_eq hports]
  have hlast : (u.notePort p (old.get p).st cause).noteEach old cause after =
      u.notePort p (old.get p).st cause :=
    noteEach_of_same old cause fun q hq => by
      rw [port_of_ports_eq (s := u) (by simp), port_of_ports_eq hports]
      exact hafter q hq
  rw [hlast, hnote, placePort_of_busy _ hubusy, portNotice_of_ports p _ cause hports hclock]
  rfl

/-! #### SETUP entry -/

theorem enterSetup_tables (s : State) :
    s.enterSetup.channels = mapTable Channel.clear s.channels ∧
      s.enterSetup.gens = mapTable Generator.enterSetup s.gens ∧ s.enterSetup.discards = s.discards ∧
      s.enterSetup.cab = s.clearCab.cab := by
  simp [enterSetup, clearDynamic, clearCab]

/-- The hub before the PORT notices of SETUP entry. -/
theorem enterSetup_notices (s : State) :
    ∃ u : State, s.enterSetup = u.notePorts s.ports .setupEntry ∧ u.ports = s.enterSetup.ports ∧
      u.clock = s.enterSetup.clock ∧ Notes [.clock] (s.changeHub .setup .none 0 .command) u := by
  have hclock : Notes [.clock] (s.changeHub .setup .none 0 .command)
      (((s.changeHub .setup .none 0 .command).withClock
        (s.changeHub .setup .none 0 .command).clock.enterSetup).noteClock s.clock.st .setupEntry) :=
    (notes_noteClock _ _ _).after rfl
  exact ⟨_, rfl, by simp [enterSetup], by simp [enterSetup],
    hclock.trans (.of_link_eq (by simp [clearDynamic, clearCab]))⟩

theorem notes_enterSetup (s : State) : Notes [.state, .clock, .port] s s.enterSetup := by
  obtain ⟨u, hu, -, -, hnotes⟩ := s.enterSetup_notices
  rw [hu]
  exact (((s.notes_changeHub .setup .none 0 .command).mono (by simp)).trans
    (hnotes.mono (by simp))).trans ((u.notes_notePorts _ _).mono (by simp))

theorem enterSetup_stateSlot (hbusy : s.link.tx ≠ .idle) :
    s.enterSetup.link.slots.state =
      placedOver s.link.slots.state ⟨.setup, s.ctrl.st, .command, .none, 0, s.clock.current⟩ := by
  obtain ⟨u, hu, -, -, hnotes⟩ := s.enterSetup_notices
  have hcbusy := (s.notes_changeHub .setup .none 0 .command).busy hbusy
  have hubusy := hnotes.busy hcbusy
  rw [hu, (u.notes_notePorts _ _).state hubusy, hnotes.state hcbusy, changeHub_of_busy _ _ _ _ hbusy]

theorem enterSetup_portSlot (hbusy : s.link.tx ≠ .idle) {before after : List Port} {p : Port}
    (hps : [Port.vision, .sound, .cab] = before ++ p :: after)
    (hp : (s.enterSetup.port p).st ≠ (s.port p).st)
    (hafter : ∀ q ∈ after, (s.enterSetup.port q).st = (s.port q).st) :
    s.enterSetup.link.slots.port.map (·.content) =
      some (s.enterSetup.portNotice p (s.port p).st .setupEntry) := by
  obtain ⟨u, hu, hports, hclock, hnotes⟩ := s.enterSetup_notices
  have hubusy := hnotes.busy ((s.notes_changeHub .setup .none 0 .command).busy hbusy)
  have hslot := notePorts_portSlot s.ports .setupEntry hubusy hps
    (by rw [port_of_ports_eq hports]; exact hp)
    (fun q hq => by rw [port_of_ports_eq hports]; exact hafter q hq)
  rw [← hu, portNotice_of_ports p _ _ hports hclock] at hslot
  exact hslot

/-- A port that was not in OFF is cleared (R22, R96). -/
theorem closed_of_busy {b : BoardPort} (h : b.st ≠ .off) :
    b.closed.inFlight = none ∧ b.closed.conts = [] ∧ b.closed.neutral = none ∧ b.closed.echoDue = none ∧
      b.closed.sched = none ∧ b.closed.window = [] ∧
      b.closed.echo = { Reset.echo with next := b.echo.next } := by
  unfold BoardPort.closed
  rw [if_neg h]
  exact ⟨rfl, rfl, rfl, rfl, rfl, rfl, rfl⟩

theorem closed_kept (b : BoardPort) :
    b.closed.st = .off ∧ b.closed.cfg = b.cfg ∧ b.closed.wait = b.wait ∧ b.closed.abort = b.abort ∧
      b.closed.rxErrors = b.rxErrors := by
  unfold BoardPort.closed
  split
  · next h => exact ⟨h, rfl, rfl, rfl, rfl⟩
  · exact ⟨rfl, rfl, rfl, rfl, rfl⟩

/-! #### ARM -/

@[simp] theorem writeRamps_frame (q : RampRequest) (s : State) :
    (s.writeRamps q).clock = s.clock ∧ (s.writeRamps q).channels = s.channels ∧
      (s.writeRamps q).discards = s.discards ∧ (s.writeRamps q).routes = s.routes ∧
      (s.writeRamps q).gens = s.gens ∧ (s.writeRamps q).ports = s.ports ∧
      (s.writeRamps q).queue = s.queue ∧ (s.writeRamps q).cab = s.cab ∧
      (s.writeRamps q).link = s.link := by
  simp [writeRamps]

/-- A route in use takes its rest value as its last (R24). -/
theorem arm_route (r : Route) :
    (if r.port.isSome then { r with last := r.rest } else r) =
      { r with last := if r.port = none then r.last else r.rest } := by
  cases h : r.port <;> cases r <;> simp_all

/-- A PERIODIC generator's anchor is pending (R84). -/
theorem arm_generator (g : Generator) :
    g.arm = { g with anchor := if g.mode = .periodic then .pending else g.anchor } := by
  unfold Generator.arm
  split <;> rfl

/-- An enabled port that was OFF and quiet is PROBING, with its next echo issued (R24, R110). -/
theorem opened_of_enabled {b : BoardPort} (now : Instant) (henable : b.cfg.enable = true)
    (houtstanding : b.echo.outstanding = none) :
    b.opened now =
      { b with
        st := .probing
        inbound := none
        openedAt := some now
        echo := { b.echo with next := b.echo.next + 1, outstanding := some ⟨b.echo.next, 0, none⟩ }
        echoDue := some ⟨b.echo.next, none⟩ } := by
  simp [BoardPort.opened, BoardPort.issueEcho, henable, houtstanding]

theorem opened_of_disabled {b : BoardPort} (now : Instant) (henable : b.cfg.enable = false) :
    b.opened now = b := by
  simp [BoardPort.opened, henable]

theorem armed_tables (s : State) :
    s.armed.clock = s.clock.arm ∧ s.armed.ctrl = { s.ctrl with st := .armed, reason := .none, f := 0 } ∧
      s.armed.channels = s.channels ∧ s.armed.discards = s.discards ∧ s.armed.cab = s.cab ∧
      s.armed.queue = s.queue ∧ s.armed.link.replies = s.link.replies ∧
      s.armed.gens = mapTable Generator.arm s.gens ∧
      s.armed.routes = mapTable (fun r => if r.port.isSome then { r with last := r.rest } else r) s.routes := by
  simp [armed]

/-- The hub before the PORT notices of ARM, and its other notices. -/
theorem armed_notices (s : State) :
    ∃ u : State, s.armed = u.notePorts s.ports .arm ∧ u.ports = s.armed.ports ∧
      u.clock = s.armed.clock ∧
      u.link = (((s.changeHub .armed .none 0 .command).withClock s.clock.arm).noteClock s.clock.st .arm).link ∧
      Notes [.clock] (s.changeHub .armed .none 0 .command) u := by
  have hclock : Notes [.clock] (s.changeHub .armed .none 0 .command)
      (((s.changeHub .armed .none 0 .command).withClock s.clock.arm).noteClock s.clock.st .arm) :=
    (notes_noteClock _ _ _).after rfl
  exact ⟨_, rfl, by simp [armed], by simp [armed], by simp, hclock.trans (.of_link_eq (by simp))⟩

theorem notes_armed (s : State) : Notes [.state, .clock, .port] s s.armed := by
  obtain ⟨u, hu, -, -, -, hnotes⟩ := s.armed_notices
  rw [hu]
  exact (((s.notes_changeHub .armed .none 0 .command).mono (by simp)).trans
    (hnotes.mono (by simp))).trans ((u.notes_notePorts _ _).mono (by simp))

theorem armed_slots (hbusy : s.link.tx ≠ .idle) :
    s.armed.link.slots.state =
        placedOver s.link.slots.state ⟨.armed, s.ctrl.st, .command, .none, 0, s.clock.current⟩ ∧
      (s.clock.st = .free → s.armed.link.slots.clock =
        placedOver s.link.slots.clock ⟨.acquire, .free, s.clock.current, s.clock.lastE, .arm⟩) := by
  obtain ⟨u, hu, -, -, hlink, hnotes⟩ := s.armed_notices
  have hcbusy := (s.notes_changeHub .armed .none 0 .command).busy hbusy
  have hubusy := hnotes.busy hcbusy
  rw [hu, (u.notes_notePorts _ _).state hubusy, (u.notes_notePorts _ _).clock hubusy,
    hnotes.state hcbusy, changeHub_of_busy _ _ _ _ hbusy, hlink]
  refine ⟨rfl, fun hfree => ?_⟩
  have hnote (w : State) (hw : w.link.tx ≠ .idle) (hst : w.clock.st = .acquire) :
      (w.noteClock .free .arm).link.slots.clock =
        placedOver w.link.slots.clock ⟨.acquire, .free, w.clock.current, w.clock.lastE, .arm⟩ := by
    have hne : w.noteClock .free .arm = w.placeClock (w.clockNotice .free .arm) :=
      if_neg (by simp [hst])
    rw [hne, placeClock_of_busy _ hw, clockNotice, hst]
  rw [hfree]
  refine (hnote ((s.changeHub .armed .none 0 .command).withClock s.clock.arm) hcbusy rfl).trans ?_
  have hslot : (s.changeHub .armed .none 0 .command).link.slots.clock = s.link.slots.clock :=
    (s.notes_changeHub .armed .none 0 .command).clock hbusy
  exact congrArg (placedOver · _) hslot

theorem armed_portSlot (hbusy : s.link.tx ≠ .idle) {before after : List Port} {p : Port}
    (hps : [Port.vision, .sound, .cab] = before ++ p :: after)
    (hp : (s.armed.port p).st ≠ (s.port p).st)
    (hafter : ∀ q ∈ after, (s.armed.port q).st = (s.port q).st) :
    s.armed.link.slots.port.map (·.content) = some (s.armed.portNotice p (s.port p).st .arm) := by
  obtain ⟨u, hu, hports, hclock, -, hnotes⟩ := s.armed_notices
  have hubusy := hnotes.busy ((s.notes_changeHub .armed .none 0 .command).busy hbusy)
  have hslot := notePorts_portSlot s.ports .arm hubusy hps
    (by rw [port_of_ports_eq hports]; exact hp)
    (fun q hq => by rw [port_of_ports_eq hports]; exact hafter q hq)
  rw [← hu, portNotice_of_ports p _ _ hports hclock] at hslot
  exact hslot

end State
end Sys2Proof.Machine

section
open Sys2Proof Sys2Proof.Machine

/-- Settles O13: SETUP entry block by block, its notices in the order STATE, CLOCK, PORT (R22, log 31). -/
theorem setupEntryClearsDynamicState : Obligations.SetupEntryClearsDynamicState := by
  unfold Obligations.SetupEntryClearsDynamicState
  intro dt tag q s hroom hmask u rampIn rampOut
  have hexec (hst : State.setupAccepts u.ctrl.st = true) := next_request (tag := tag) (kind := 0x01) hroom
    (State.hubCommand_of_taken (act := State.actSetup) hmask hst (State.noCheck.eq_1 u))
  refine ⟨fun hst => ?_, fun hst => ?_⟩
  · have hact : State.actSetup (u.writeRamps q) = u.writeRamps q := if_pos hst
    refine (hexec (by rw [hst]; rfl)).trans ?_
    rw [hact]
    rfl
  · have haccepts : State.setupAccepts u.ctrl.st = true := by
      obtain h | h | h := hst <;> rw [h] <;> rfl
    have hsetup : u.ctrl.st ≠ .setup := by
      rintro h
      simp [h] at hst
    have hact : State.actSetup (u.writeRamps q) = (u.writeRamps q).enterSetup := if_neg hsetup
    refine ⟨_, hexec haccepts, ?_⟩
    rw [hact]
    generalize hv : (u.writeRamps q).enterSetup = v
    have hctrl : v.ctrl = ⟨.setup, .none, 0, rampIn, rampOut⟩ := by
      rw [← hv]
      simp [rampIn, rampOut]
    have hclock : v.clock = u.clock.enterSetup := by
      rw [← hv]
      simp [State.writeRamps]
    have hport (p : Port) : v.port p = (u.port p).closed := by
      rw [← hv]
      exact State.enterSetup_port (u.writeRamps q) p
    obtain ⟨hchannels, hgens, hdiscards, hcab⟩ := State.enterSetup_tables (u.writeRamps q)
    have hroutes := State.enterSetup_routes (u.writeRamps q)
    rw [hv] at hchannels hgens hdiscards hcab hroutes
    have hreplies : v.link.replies = u.link.replies := by
      rw [← hv]
      exact State.enterSetup_replies _
    have hvbusy (hbusy : u.link.tx ≠ .idle) : v.link.tx ≠ .idle :=
      hv ▸ (State.notes_enterSetup (u.writeRamps q)).busy hbusy
    refine ⟨by simpa using hctrl, (State.replied_clock _ _ _ _ _).trans hclock, fun i => ?_, fun i => ?_, fun g => ?_,
      by simp [← hv], (State.replied_frame _ _ _ _ _).2.2.1.trans hdiscards, ?_, ?_, ?_, ?_, fun i => ?_, fun p => ?_, ?_,
      fun hbusy => ⟨?_, fun before after p hps hp hafter => ?_⟩⟩
    · simp only [State.replied_frame, hchannels, Fin.getElem_fin, mapTable_getElem]
      rfl
    · simp only [State.replied_frame, hroutes, Fin.getElem_fin, mapTable_getElem]
      rfl
    · simp only [State.replied_frame, hgens, Fin.getElem_fin, mapTable_getElem]
      rfl
    · simp only [State.replied_frame, hcab]
      rfl
    · simp only [State.replied_frame, hcab]
      rfl
    · simp only [State.replied_frame, hcab]
      rfl
    · simp only [State.replied_frame, hcab]
      rfl
    · simp only [State.replied_frame, hcab, State.clearCab, State.withCab_cab, Fin.getElem_fin,
        mapTable_getElem]
      rfl
    · obtain ⟨hoff, hcfg, hwait, habort, hrx⟩ := State.closed_kept (u.port p)
      rw [State.replied_port, hport]
      exact ⟨hoff, hcfg, hwait, habort, hrx, State.closed_of_busy⟩
    · rw [State.replied_replies, hreplies]
      simp [State.hubBody, hctrl, replyKind]
    · refine ((State.notes_replied _ _ _ _ _).state (hvbusy hbusy)).trans ?_
      rw [← hv]
      exact State.enterSetup_stateSlot (s := u.writeRamps q) hbusy
    · have hst' (p' : Port) : ((u.writeRamps q).enterSetup.port p').st = .off := by
        rw [hv, hport]
        exact (State.closed_kept _).1
      have hslot := State.enterSetup_portSlot (s := u.writeRamps q) hbusy hps
        (by rw [hst']; exact Ne.symm hp) (fun p' hp' => (hst' p').trans (hafter p' hp').symm)
      rw [hv] at hslot
      have hkeep := (State.notes_replied (replyKind 0x01) tag .ok (v.hubBody .none) v).port (hvbusy hbusy)
      refine (congrArg (Option.map (·.content)) hkeep).trans (hslot.trans (congrArg some ?_))
      obtain ⟨-, -, -, -, -, -, hecho⟩ := State.closed_of_busy hp
      exact State.portNotice_eq_portChange (fun p' => by rw [State.replied_port]) (by simp)
        (hv ▸ hst' p) (by rw [hport, hecho]; rfl) (by rw [hport, hecho]; rfl)

/-- Settles O15: ARM block by block; each enabled port's line takes its echo (R24, R110). -/
theorem armStartsTheApproach : Obligations.ArmStartsTheApproach := by
  unfold Obligations.ArmStartsTheApproach
  intro dt tag q s hroom hmask u hsetup hfault hqueue hports
  have hcheck : u.configCheck = none := by simp [State.configCheck, hfault]
  have hexec := next_request (tag := tag) (kind := 0x01) hroom
    (State.hubCommand_of_taken (accepts := fun st => decide (st = .setup)) (act := State.enterArmed) hmask
      (decide_eq_true hsetup) hcheck)
  refine ⟨_, hexec, ?_⟩
  have hact : State.enterArmed (u.writeRamps q) = (u.writeRamps q).armed.finishLines :=
    State.enterArmed_eq _
  rw [hact]
  obtain ⟨hclock, hctrl, hchannels, hdiscards, hcab, hvqueue, hreplies, hgens, hroutes⟩ :=
    State.armed_tables (u.writeRamps q)
  have hport (p : Port) : (u.writeRamps q).armed.port p = (u.port p).opened u.now := State.armed_port _ p
  have hslots := State.armed_slots (s := u.writeRamps q)
  have hportSlot := fun {before after p} => State.armed_portSlot (s := u.writeRamps q)
    (before := before) (after := after) (p := p)
  have hnotes := State.notes_armed (u.writeRamps q)
  generalize (u.writeRamps q).armed = v at hclock hctrl hchannels hdiscards hcab hvqueue hreplies hgens hroutes hport hslots hportSlot hnotes ⊢
  have hquiet (p : Port) : v.expireAll.noEventDue p :=
    State.noEventDue_expireAll_of_empty (hvqueue.trans hqueue)
  have houtstanding (p : Port) : (u.port p).echo.outstanding = none := by
    obtain ⟨-, -, -, -, -, hnone, -⟩ := (hports p).2 (hports p).1
    exact hnone
  have hopened (p : Port) (he : (u.port p).cfg.enable = true) :=
    (hport p).trans (State.opened_of_enabled u.now he (houtstanding p))
  have hclosed (p : Port) (he : (u.port p).cfg.enable = false) :=
    (hport p).trans (State.opened_of_disabled u.now he)
  have hsched (p : Port) : (v.port p).sched = none := by
    obtain ⟨-, -, -, -, hs, -⟩ := (hports p).2 (hports p).1
    cases he : (u.port p).cfg.enable with
    | true => rw [hopened p he]; exact hs
    | false => rw [hclosed p he]; exact hs
  have hsteady := v.finishLines_steady
  have hst (p : Port) : (v.finishLines.port p).st = (v.port p).st := (hsteady p).st
  refine ⟨by simp [hctrl], by simp [hctrl], by simp [hctrl], by simp [hclock, Clock.arm, u], fun i => ?_, fun g => ?_,
    fun p he => ?_, fun p he => ?_, by simp [hchannels, u], by simp [hcab, u], ?_, by simp [hdiscards, u],
    fun hbusy => ?_⟩
  · rw [State.replied_routes, State.finishLines_routes_of_no_sched hsched, hroutes,
      Fin.getElem_fin, mapTable_getElem]
    simp only [State.arm_route, State.writeRamps_frame]
    rfl
  · simp only [State.replied_frame, State.finishLines_frame, hgens, Fin.getElem_fin, mapTable_getElem,
      State.arm_generator, State.writeRamps_frame]
  · have hv := hopened p he
    simp only [State.replied_port]
    refine ⟨by rw [hst, hv], by rw [(hsteady p).inbound, hv], by rw [(hsteady p).echo, hv],
      fun hwait habort => ?_⟩
    obtain ⟨hflight, hconts, hneutral, -⟩ := (hports p).2 (hports p).1
    have hfree : ¬(v.port p).heldOff := by
      rw [State.not_heldOff_iff, hv]
      exact ⟨hflight, hwait, habort⟩
    have hidle := ((State.finishLines_port_of_idle hfree (State.notDue_of_none (hsched p))
      (by rw [hv]; exact hconts) (hquiet p)).2 (by rw [hv]; exact hneutral)).1 ⟨(u.port p).echo.next, none⟩
      (by rw [hv])
    rw [hidle]
    simp [State.now, hclock, State.echoPacket, Clock.arm]
  · simp only [State.replied_port]
    rw [hst, (hsteady p).echo, hclosed p he]
    exact ⟨(hports p).1, rfl⟩
  · simp only [State.replied_frame]
    rw [State.finishLines_queue_of_done (by simp [hvqueue, hqueue, u]), hvqueue]
    exact hqueue
  · have hvbusy : v.link.tx ≠ .idle := hnotes.busy hbusy
    have hfbusy := v.notes_finishLines.busy hvbusy
    have hreplied := State.notes_replied (replyKind 0x01) tag .ok (State.hubBody .none v.finishLines) v.finishLines
    refine ⟨?_, fun hfree => ?_, fun before after p hps he hafter => ?_⟩
    · refine (hreplied.state hfbusy).trans ((v.notes_finishLines.state hvbusy).trans ?_)
      exact (hslots hbusy).1.trans (by simp [hsetup, State.writeRamps])
    · refine (hreplied.clock hfbusy).trans ((v.notes_finishLines.clock hvbusy).trans ?_)
      exact (hslots hbusy).2 hfree
    · have hkeep := (hreplied.port hfbusy).trans (v.notes_finishLines.port hvbusy)
      have hprobing : (v.port p).st = .probing := by rw [hopened p he]
      have hslot := hportSlot hbusy hps (by rw [hprobing]; exact fun h => by cases h.trans (hports p).1)
        (fun p' hp' => by rw [hclosed p' (hafter p' hp')]; rfl)
      refine (congrArg (Option.map (·.content)) hkeep).trans (hslot.trans (congrArg some ?_))
      have hleft : ((u.writeRamps q).port p).st = .off := (hports p).1
      rw [hleft]
      refine State.portNotice_eq_portChange (fun p' => ?_) ?_ hprobing ?_ ?_
      · rw [State.replied_port, hst]
      · simp
      · rw [hopened p he]
      · rw [hopened p he]

end

/-! ### The requests that read, and the generators' requests (R63, R81, R87, R91, R98, R184) -/

namespace Sys2Proof.Machine

theorem portOf_of_no_port {n : Byte} (h : 3 ≤ n.toNat) : portOf n = none := by
  unfold portOf
  split
  · omega
  · omega
  · omega
  · rfl

theorem maskFits_iff {w : Nat} (mask : BitVec w) (n : Nat) : maskFits mask n = true ↔ mask.toNat < 2 ^ n := by
  simp [maskFits]

theorem isTriggerLine_iff (line : Byte) : isTriggerLine line = true ↔ line = 0xFF ∨ line.toNat ≤ 15 := by
  simp [isTriggerLine]

namespace Generator

variable {g : Generator} {q : GeneratorRequest}

theorem changeMode_eq (new : GeneratorMode) (frameStart : Instant) (g : Generator) :
    g.changeMode new frameStart =
      { g with
        mode := new
        runState := if new = g.mode then g.runState else .idle
        triggerAt := if new = g.mode then g.triggerAt else none
        anchor :=
          if new = g.mode then g.anchor else if new = .periodic then .at frameStart else .absent } := by
  unfold changeMode
  by_cases h : g.mode = new
  · subst h
    simp
  · simp [h, Ne.symm h]

/-- A trigger taken by a ONE_SHOT generator that is IDLE (R87). -/
theorem trigger_of_idle {t : Instant} (hmode : g.mode = .oneShot) (hidle : g.runState = .idle) :
    g.trigger t = { g with runState := .pulse, triggerAt := some t } := if_pos ⟨hmode, hidle⟩

theorem stop_of_oneShot (h : g.mode = .oneShot) : g.stop = { g with runState := .idle, triggerAt := none } :=
  if_pos h

theorem stop_of_not_oneShot (h : g.mode ≠ .oneShot) : g.stop = g := if_neg h

end Generator

namespace State

variable {s : State}

theorem generatorBody_of_generator {i : Byte} (h : i.toNat < 4) (modeHeld : Option GeneratorMode) :
    s.generatorBody i modeHeld = .generator i (some s.gens[i.toNat]) s.gens[i.toNat].rate modeHeld := by
  simp [generatorBody, h]

theorem generatorBody_of_no_generator {i : Byte} (h : 4 ≤ i.toNat) (modeHeld : Option GeneratorMode) :
    s.generatorBody i modeHeld = .generator i none 0 modeHeld := by
  simp [generatorBody, h.not_gt]

theorem generatorBody_withGens {i : Byte} (h : i.toNat < 4) (g : Generator) (modeHeld : Option GeneratorMode) :
    (s.withGens (s.gens.set i.toNat g)).generatorBody i modeHeld = .generator i (some g) g.rate modeHeld := by
  simp [generatorBody_of_generator h]

/-! #### SET_GENERATOR -/

/-- The mode that SET_GENERATOR gives; none when the request's code names no mode. -/
def mergedMode (q : GeneratorRequest) (g : Generator) : Option GeneratorMode :=
  pick q.mask 0 (generatorModeOf q.mode) (some g.mode)

/-- The checks of R81, but for the index. -/
def generatorFits (q : GeneratorRequest) (g : Generator) (s : State) : Prop :=
  q.mask.toNat < 64 ∧ mergedMode q g ≠ none ∧
    s.lineAllowed (pick q.mask 5 q.triggerLine g.triggerLine) = true

theorem ownSetGenerator_of_no_generator {q : GeneratorRequest} (h : 4 ≤ q.generator.toNat) :
    s.ownSetGenerator q = ⟨s, .badValue, .generator q.generator none 0 none⟩ := by
  simp [ownSetGenerator, h.not_gt, generatorBody_of_no_generator h]

theorem ownSetGenerator_of_refused {q : GeneratorRequest} (h : q.generator.toNat < 4)
    (hfail : ¬s.generatorFits q s.gens[q.generator.toNat]) :
    s.ownSetGenerator q = ⟨s, .badValue, s.generatorBody q.generator none⟩ := by
  unfold ownSetGenerator
  by_cases hmask : maskFits q.mask 6 = true
  · simp only [hmask, Bool.not_true, Bool.false_eq_true, if_false, h, dif_pos]
    split
    · rfl
    · next mode hmode =>
      refine if_neg fun hline => hfail ⟨(maskFits_iff _ _).mp hmask, ?_, hline⟩
      simp [mergedMode, hmode]
  · simp [hmask]

theorem ownSetGenerator_of_fits {q : GeneratorRequest} {mode : GeneratorMode} (h : q.generator.toNat < 4)
    (hmask : q.mask.toNat < 64) (hmode : mergedMode q s.gens[q.generator.toNat] = some mode)
    (hline : s.lineAllowed (pick q.mask 5 q.triggerLine s.gens[q.generator.toNat].triggerLine) = true) :
    s.ownSetGenerator q =
      let m := s.gens[q.generator.toNat].update q mode s.clock.start
      ⟨s.withGens (s.gens.set q.generator.toNat m), .ok, .generator q.generator (some m) m.rate none⟩ := by
  have hmask' : maskFits q.mask 6 = true := (maskFits_iff _ _).mpr hmask
  unfold mergedMode at hmode
  simp only [ownSetGenerator, hmask', h, dif_pos, hmode, hline, if_true, generatorBody_withGens h]
  rfl

/-! #### START_GENERATOR, STOP_GENERATOR -/

theorem ownStartGenerator_of_generator {i : Byte} (h : i.toNat < 4) :
    s.ownStartGenerator i =
      let g := s.gens[i.toNat]
      let started : Generator := { g with runState := .pulse, triggerAt := some s.now }
      if s.ctrl.st = .setup then ⟨s, .wrongState, .generator i (some g) g.rate none⟩
      else if g.mode ≠ .oneShot then ⟨s, .wrongState, .generator i (some g) g.rate (some g.mode)⟩
      else if g.runState = .pulse then ⟨s, .inProgress, .generator i (some g) g.rate none⟩
      else
        ⟨s.withGens (s.gens.set i.toNat started), .ok, .generator i (some started) started.rate none⟩ := by
  simp only [ownStartGenerator, h, dif_pos, generatorBody_of_generator h]
  split_ifs with hsetup hmode hidle hpulse hpulse
  · rfl
  · rfl
  · rfl
  · exact absurd (by cases hr : s.gens[i.toNat].runState <;> simp_all) hpulse
  · simp_all
  · have hone : s.gens[i.toNat].mode = .oneShot := not_not.mp hmode
    have hrun : s.gens[i.toNat].runState = .idle := not_not.mp hidle
    rw [Generator.trigger_of_idle hone hrun]
    simp

end State
end Sys2Proof.Machine

section
open Sys2Proof Sys2Proof.Machine

/-- Settles O24: a reading request's owner answers with what stands, in the state it is given. -/
theorem readsChangeNothing : Obligations.ReadsChangeNothing := by
  unfold Obligations.ReadsChangeNothing
  intro dt tag i s hroom u
  refine ⟨fun h => ?_, fun h => ?_, fun h => ?_, fun p hp => ?_, ?_⟩
  · exact next_request (kind := 0x06) (owner := State.ownGetRoute i) hroom (if_neg h.not_gt)
  · have howner : u.ownGetRoute i =
        ⟨u, .ok, .route i (some u.routes[i.toNat]) (u.routes[i.toNat]).port.isSome .none⟩ :=
      (if_pos h).trans (by simp [State.routeBody, h])
    exact next_request (kind := 0x06) hroom howner
  · have howner : u.ownGetPort i = ⟨u, .badValue, .bare⟩ := by
      simp [State.ownGetPort, portOf_of_no_port h]
    exact next_request (kind := 0x08) hroom howner
  · have howner : u.ownGetPort i = ⟨u, .ok, .portReport i (some (u.portReport p))⟩ := by
      simp [State.ownGetPort, hp]
    exact next_request (kind := 0x08) hroom howner
  · refine (next_request (kind := 0x15) (owner := State.ownGetStatus) hroom rfl).trans ?_
    simp only [State.ownGetStatus, State.statusReport, State.doneCount, List.countP_eq_length_filter]
    rfl

/-- Settles O26: index, mask, mode and trigger line in their order, then the merged settings (R81, R82). -/
theorem setGeneratorUpdatesTheSettings : Obligations.SetGeneratorUpdatesTheSettings := by
  unfold Obligations.SetGeneratorUpdatesTheSettings
  intro dt tag q s hroom u c
  have hexec {a : Answer} (ha : u.ownSetGenerator q = a) := next_request (tag := tag) (kind := 0x09) hroom ha
  refine ⟨fun h => hexec (State.ownSetGenerator_of_no_generator h), ?_⟩
  intro h held mode new line passes m
  have hpasses : u.generatorFits q held ↔ passes := by
    simp only [State.generatorFits, State.lineAllowed, Bool.or_eq_true, decide_eq_true_eq,
      isTriggerLine_iff]
    rfl
  refine ⟨fun hfail => ?_, fun hpass => ?_⟩
  · rw [← State.generatorBody_of_generator h]
    exact hexec (State.ownSetGenerator_of_refused h (hfail ∘ hpasses.mp))
  · obtain ⟨hmask, hmode, hline⟩ := hpasses.mpr hpass
    obtain ⟨mode', hmode'⟩ := Option.ne_none_iff_exists'.mp hmode
    have hnew : new = mode' := by
      change Option.getD mode _ = _
      rw [show mode = some mode' from hmode']
      rfl
    have hm : held.update q mode' u.clock.start = m := by
      rw [Generator.update, Generator.changeMode_eq, ← hnew]
      rfl
    have howner := State.ownSetGenerator_of_fits h hmask hmode' hline
    rw [hm] at howner
    exact hexec howner

/-- Settles O27: the four checks of R87 in their order, and the stop of R91. -/
theorem startAndStopMoveTheOneShot : Obligations.StartAndStopMoveTheOneShot := by
  unfold Obligations.StartAndStopMoveTheOneShot
  refine ⟨fun dt tag i s hroom => ?_, fun dt tag i s hroom => ?_⟩
  · intro u c
    refine ⟨fun h => ?_, fun h => ?_⟩
    · have howner : u.ownStartGenerator i = ⟨u, .badValue, .generator i none 0 none⟩ := by
        simp [State.ownStartGenerator, h.not_gt, State.generatorBody_of_no_generator h]
      exact next_request (kind := 0x0A) hroom howner
    · intro g started
      refine (next_request (kind := 0x0A) hroom (State.ownStartGenerator_of_generator h)).trans ?_
      dsimp only
      split_ifs <;> rfl
  · intro u c
    refine ⟨fun h => ?_, fun h => ?_⟩
    · have howner : u.ownStopGenerator i = ⟨u, .badValue, .bare⟩ := by
        simp [State.ownStopGenerator, h.not_gt]
      exact next_request (kind := 0x0B) hroom howner
    · intro g stopped
      have howner : u.ownStopGenerator i = ⟨u.withGens (u.gens.set i.toNat g.stop), .ok, .bare⟩ := dif_pos h
      refine ⟨fun hmode => ?_, fun hmode => ⟨?_, fun p => ?_⟩⟩
      · rw [Generator.stop_of_not_oneShot hmode] at howner
        have hsame : u.withGens (u.gens.set i.toNat g) = u := by simp [State.withGens, g]
        rw [hsame] at howner
        exact next_request (kind := 0x0B) hroom howner
      · rw [Generator.stop_of_oneShot hmode] at howner
        exact next_request (kind := 0x0B) hroom howner
      · simp [Generator.level, Generator.pulseLevel, stopped, hmode]

end

/-! ### SAMPLES (R40 to R46) -/

namespace Sys2Proof.Machine

namespace State

variable {s : State} {frame : Frame} {offset : Word} {pairs : List (Byte × Cue)}

/-! #### The window of frames (R41) -/

section
variable {c : Clock}

theorem sampleWindow_current (c : Clock) :
    sampleWindow c c.current = some (c.start, diff c.frameEnd c.start) := by
  simp [sampleWindow, frameDist]

theorem sampleWindow_next (c : Clock) :
    sampleWindow c (c.current + 1) = some (c.start + micro c.set.frameLen, (c.set.frameLen : Int)) := by
  have hahead : frameDist c.current (c.current + 1) = 1 := by
    unfold frameDist
    bv_omega
  unfold sampleWindow
  dsimp only
  rw [if_neg (by omega), if_pos hahead]

theorem sampleWindow_of_outside (hahead : 2 ≤ (frame - c.current).toNat)
    (hbehind : 32 ≤ (c.current - frame).toNat) : sampleWindow c frame = none := by
  unfold sampleWindow frameDist
  dsimp only
  rw [if_neg (by omega), if_neg (by omega), if_neg (by omega)]

/-- An earlier frame has the start that the ring holds, and lasts to the start of the next one. -/
theorem sampleWindow_of_behind (h1 : 1 ≤ (c.current - frame).toNat) (h31 : (c.current - frame).toNat ≤ 31) :
    sampleWindow c frame =
      (c.ringStart frame).bind fun a => (c.ringStart (frame + 1)).map fun b => (a, diff b a) := by
  have hahead : 2 ≤ (frame - c.current).toNat := by bv_omega
  unfold sampleWindow frameDist
  dsimp only
  rw [if_neg (by omega), if_neg (by omega), if_pos ⟨h1, h31⟩]
  cases c.ringStart frame with
  | none => rfl
  | some a => cases c.ringStart (frame + 1) <;> rfl

end

/-- The offset is held below the frame's length (R42). -/
theorem sampleInstant_eq (start : Instant) (length : Int) (offset : Word) :
    sampleInstant start length offset = start + BitVec.ofInt 32 (min (offset.toNat : Int) (length - 1)) := by
  have hmin : (if length ≤ (offset.toNat : Int) then length - 1 else (offset.toNat : Int)) =
      min (offset.toNat : Int) (length - 1) := by
    split_ifs <;> omega
  rw [sampleInstant, hmin]

/-! #### What SAMPLES does -/

theorem takeSamples_of_setup (h : s.ctrl.st = .setup) :
    s.takeSamples frame offset pairs = s.withDiscards (countUp 65535 pairs.length s.discards) := if_pos h

theorem takeSamples_of_window_none (h : sampleWindow s.clock frame = none) :
    s.takeSamples frame offset pairs = s.withDiscards (countUp 65535 pairs.length s.discards) := by
  simp [takeSamples, h]

theorem takeSamples_of_window (hst : s.ctrl.st ≠ .setup) {start : Instant} {length : Int}
    (h : sampleWindow s.clock frame = some (start, length)) :
    s.takeSamples frame offset pairs =
      pairs.foldl (takePair (start + BitVec.ofInt 32 (min (offset.toNat : Int) (length - 1)))) s := by
  simp [takeSamples, hst, h, sampleInstant_eq]

/-- A record of 1 to 48 pairs goes to the stream channels. -/
theorem takeSamplesRecord_of_pairs (h1 : 1 ≤ pairs.length) (h48 : pairs.length ≤ 48) :
    s.takeSamplesRecord frame offset pairs = s.takeSamples frame offset pairs :=
  if_pos (by simp [pairCountFits, h1, h48])

theorem takeSamplesRecord_of_bad_count (h : pairs.length = 0 ∨ 48 < pairs.length) :
    s.takeSamplesRecord frame offset pairs = s.countLinkError :=
  if_neg (by simp [pairCountFits]; omega)

end State

theorem exec_samples {s : State} (h : s.inReset = false) (dt : Nat) (frame : Frame) (offset : Word)
    (pairs : List (Byte × Cue)) :
    exec (.samples dt frame offset pairs) s =
      .next ((s.taken dt).takeSamplesRecord frame offset pairs) :=
  congrArg Host.Outcome.next (outside_of_running dt _ h)

end Sys2Proof.Machine

section
open Sys2Proof Sys2Proof.Machine

/-- Settles O20: the pair count, then the window of R41 case by case, then the pairs in their order. -/
theorem samplesAreTakenByTheirFrame : Obligations.SamplesAreTakenByTheirFrame := by
  unfold Obligations.SamplesAreTakenByTheirFrame
  intro dt frame offset pairs s hreset u c
  have hexec := exec_samples hreset dt frame offset pairs
  refine ⟨fun hcount => ?_, fun h1 h48 => ?_⟩
  · exact hexec.trans (congrArg _ (State.takeSamplesRecord_of_bad_count hcount))
  have htaken {t : State} (h : u.takeSamples frame offset pairs = t) : exec c s = .next t := by
    rw [hexec, State.takeSamplesRecord_of_pairs h1 h48, h]
  refine ⟨fun h => htaken (State.takeSamples_of_setup h), fun hahead hbehind => ?_,
    fun hb1 hb31 hring => ?_, fun a b hst hb1 hb31 ha hb => ?_, fun hst hframe _ => ?_, fun hst hframe hlen => ?_⟩
  · exact htaken (State.takeSamples_of_window_none (State.sampleWindow_of_outside hahead hbehind))
  · refine htaken (State.takeSamples_of_window_none ?_)
    rw [State.sampleWindow_of_behind hb1 hb31, hring]
    rfl
  · refine htaken (State.takeSamples_of_window hst ?_)
    rw [State.sampleWindow_of_behind hb1 hb31, ha, hb]
    rfl
  · subst hframe
    exact htaken (State.takeSamples_of_window hst (State.sampleWindow_current _))
  · subst hframe
    rw [htaken (State.takeSamples_of_window hst (State.sampleWindow_next _))]
    have hmin : min (offset.toNat : Int) ((u.clock.set.frameLen : Int) - 1) =
        ((min offset.toNat (u.clock.set.frameLen - 1) : Nat) : Int) := by omega
    rw [hmin, BitVec.ofInt_natCast]
    rfl

end

/-! ### SET_ROUTE and CLEAR_ROUTE (R57 to R62) -/

namespace Sys2Proof.Machine

namespace Route

/-- The source, port and lead of the merged record; none when the request's code names none. -/
def mergedSource (q : RouteRequest) (r : Route) : Option Source :=
  pick q.mask 0 (sourceOf q.sourceKind q.sourceNumber) (some r.source)

def mergedPort (q : RouteRequest) (r : Route) : Option (Option Port) :=
  pick q.mask 1 (routePortOf q.port) (some r.port)

def mergedLead (q : RouteRequest) (r : Route) : Option Bool := pick q.mask 9 (flagOf q.lead) (some r.lead)

/-- The merged record of R57, before its checks; what a code does not name stays as held. -/
def merged (q : RouteRequest) (r : Route) : Route where
  source := (r.mergedSource q).getD r.source
  port := (r.mergedPort q).getD r.port
  slot := pick q.mask 2 q.slot.toNat r.slot
  gain := pick q.mask 3 q.gain r.gain
  offset := pick q.mask 4 q.offset r.offset
  lo := pick q.mask 5 q.lo r.lo
  hi := pick q.mask 6 q.hi r.hi
  rest := pick q.mask 7 q.rest r.rest
  slew := pick q.mask 8 q.slew.toNat r.slew
  lead := (r.mergedLead q).getD r.lead
  last := r.last

/-- The first check of R58 that the merged record fails. -/
def failing (q : RouteRequest) (r : Route) : Option RouteCheck :=
  let m := r.merged q
  if r.mergedSource q = none then some .source
  else if r.mergedPort q = none then some .port
  else if maxSlotsOf m.port ≤ m.slot then some .slot
  else if m.rest.toInt < m.lo.toInt ∨ m.hi.toInt < m.rest.toInt then some .limits
  else if 32767 < m.slew then some .slew
  else if r.mergedLead q = none then some .lead
  else none

theorem merge_eq (q : RouteRequest) (r : Route) :
    r.merge q = (r.failing q).elim (.ok (r.merged q)) .error := by
  unfold merge failing
  dsimp only
  cases hsource : r.mergedSource q with
  | none =>
    unfold mergedSource at hsource
    simp [hsource]
  | some source =>
    cases hport : r.mergedPort q with
    | none =>
      unfold mergedSource at hsource
      unfold mergedPort at hport
      simp [hsource, hport]
    | some port =>
      have hs := hsource
      have hp := hport
      unfold mergedSource at hsource
      unfold mergedPort at hport
      simp only [hsource, hport, merged, hs, hp, Option.getD_some, reduceCtorEq, if_false]
      split_ifs
      · rfl
      · rfl
      · rfl
      · next hlead =>
        unfold mergedLead at hlead
        rw [hlead]
        rfl
      · next hlead =>
        obtain ⟨lead, hl⟩ := Option.ne_none_iff_exists'.mp hlead
        rw [hl]
        unfold mergedLead at hl
        rw [hl]
        rfl

end Route

theorem maxSlotsOf_eq (port : Option Port) :
    maxSlotsOf port = match port with | some .vision => 12 | some .sound => 20 | _ => 32 := by
  cases port with
  | none => rfl
  | some p => cases p <;> rfl

theorem sameClaim_iff {a b : Route} :
    a.sameClaim b = true ↔ a.port ≠ none ∧ b.port = a.port ∧ b.slot = a.slot := by
  rw [eq_comm (a := b.port), eq_comm (a := b.slot)]
  simp [Route.sameClaim, Option.isSome_iff_ne_none, and_assoc]

/-- Route `j` is another route in use, on the pair of `m` (R59). -/
def heldBy (routes : Vector Route 64) (i : Fin 64) (m : Route) (j : Fin 64) : Prop :=
  j ≠ i ∧ m.sameClaim routes[j] = true

theorem claimHolder_eq_none_iff {routes : Vector Route 64} {i : Fin 64} {m : Route} :
    claimHolder routes i m = none ↔ ∀ j, ¬heldBy routes i m j := by
  have hiff (j : Fin 64) : (decide (j ≠ i) && m.sameClaim routes[j]) = true ↔ heldBy routes i m j := by
    simp [heldBy]
  refine List.find?_eq_none.trans ⟨fun h j => ?_, fun h j _ => ?_⟩
  · exact mt (hiff j).mpr (h j (List.mem_finRange j))
  · exact mt (hiff j).mp (h j)

theorem heldBy_of_claimHolder {routes : Vector Route 64} {i j : Fin 64} {m : Route}
    (h : claimHolder routes i m = some j) : heldBy routes i m j := by
  have := List.find?_some h
  simpa [heldBy] using this

theorem namesFixed_route_iff (q : RouteRequest) :
    RouteRequest.namesFixed q = true ↔
      q.mask.getLsbD 0 = true ∨ q.mask.getLsbD 1 = true ∨ q.mask.getLsbD 2 = true := by
  simp [RouteRequest.namesFixed, or_assoc]

namespace State

variable {s : State} {q : RouteRequest}

theorem routeBody_of_route {i : Byte} (h : i.toNat < 64) (detail : RouteDetail) :
    s.routeBody i detail = .route i (some s.routes[i.toNat]) s.routes[i.toNat].port.isSome detail := by
  simp [routeBody, h]

/-- SET_ROUTE stores the merged record; in SETUP its last is its rest (R60). -/
def storedRoute (m : Route) (s : State) : Route :=
  if s.ctrl.st = .setup then { m with last := m.rest } else m

theorem ownSetRoute_of_no_route (h : 64 ≤ q.route.toNat) :
    s.ownSetRoute q = ⟨s, .badValue, .route q.route none false .none⟩ := by
  simp [ownSetRoute, routeBody, h.not_gt]

theorem ownSetRoute_of_badMask (hmask : 1024 ≤ q.mask.toNat) :
    s.ownSetRoute q = ⟨s, .badValue, s.routeBody q.route .none⟩ := by
  have hfits : ¬maskFits q.mask 10 = true := by
    rw [maskFits_iff]
    omega
  simp [ownSetRoute, hfits]

theorem ownSetRoute_of_wrongState (h : q.route.toNat < 64) (hmask : q.mask.toNat < 1024) (hst : s.ctrl.st ≠ .setup)
    (hfixed : RouteRequest.namesFixed q = true) :
    s.ownSetRoute q = ⟨s, .wrongState, s.routeBody q.route .none⟩ := by
  have hfits : maskFits q.mask 10 = true := (maskFits_iff _ _).mpr hmask
  simp [ownSetRoute, hfits, h, hst, hfixed]

theorem ownSetRoute_of_judged (h : q.route.toNat < 64) (hmask : q.mask.toNat < 1024)
    (hst : s.ctrl.st = .setup ∨ ¬RouteRequest.namesFixed q = true) :
    s.ownSetRoute q = s.judgeRoute q ⟨q.route.toNat, h⟩ := by
  have hfits : maskFits q.mask 10 = true := (maskFits_iff _ _).mpr hmask
  have hallowed : ¬(s.ctrl.st ≠ .setup ∧ RouteRequest.namesFixed q = true) := by tauto
  simp only [ownSetRoute, hfits, h, dif_pos, hallowed, if_false, Bool.not_true, Bool.false_eq_true]

theorem judgeRoute_of_failing {i : Fin 64} {check : RouteCheck}
    (h : s.routes[i].failing q = some check) :
    s.judgeRoute q i = ⟨s, .badValue, s.routeBody q.route (.check check)⟩ := by
  simp only [judgeRoute, Route.merge_eq, h, Option.elim]

theorem judgeRoute_of_taken {i j : Fin 64} (h : s.routes[i].failing q = none)
    (hj : claimHolder s.routes i (s.routes[i].merged q) = some j) :
    s.judgeRoute q i = ⟨s, .slotTaken, s.routeBody q.route (.taken j)⟩ := by
  simp only [judgeRoute, Route.merge_eq, h, Option.elim, hj]

theorem judgeRoute_of_fits (h : q.route.toNat < 64)
    (hfits : s.routes[q.route.toNat].failing q = none)
    (hfree : claimHolder s.routes ⟨q.route.toNat, h⟩ (s.routes[q.route.toNat].merged q) = none) :
    s.judgeRoute q ⟨q.route.toNat, h⟩ =
      let stored := s.storedRoute (s.routes[q.route.toNat].merged q)
      ⟨s.withRoutes (s.routes.set q.route.toNat stored), .ok,
        .route q.route (some stored) stored.port.isSome .none⟩ := by
  have hfits' : s.routes[(⟨q.route.toNat, h⟩ : Fin 64)].failing q = none := hfits
  simp only [judgeRoute, Route.merge_eq, hfits', Option.elim]
  rw [show claimHolder s.routes ⟨q.route.toNat, h⟩ (s.routes[(⟨q.route.toNat, h⟩ : Fin 64)].merged q) = none from hfree]
  simp [routeBody_of_route h, writeRoute, storedRoute]

end State
end Sys2Proof.Machine

section
open Sys2Proof Sys2Proof.Machine

/-- Settles O23: SET_ROUTE's steps in the order of R57, and CLEAR_ROUTE (R62). -/
theorem routesAreWrittenAndCleared : Obligations.RoutesAreWrittenAndCleared := by
  unfold Obligations.RoutesAreWrittenAndCleared
  refine ⟨fun dt tag q s hroom => ?_, fun dt tag i s hroom => ?_⟩
  · intro u c
    have hexec {a : Answer} (ha : u.ownSetRoute q = a) := next_request (tag := tag) (kind := 0x04) hroom ha
    refine ⟨fun h => hexec (State.ownSetRoute_of_no_route h), ?_⟩
    intro h held refused fixedNamed source port lead m slots failing holds stored
    have hrefused {r : Result} {d : RouteDetail} (ha : u.ownSetRoute q = ⟨u, r, u.routeBody q.route d⟩) :
        exec c s = refused r d := by
      rw [State.routeBody_of_route h] at ha
      exact hexec ha
    have hfixed := namesFixed_route_iff q
    have hm : held.merged q = m := rfl
    have hfailing : held.failing q = failing := by
      unfold Route.failing
      rw [hm]
      simp only [maxSlotsOf_eq]
      rfl
    have hholds (j : Fin 64) : heldBy u.routes ⟨q.route.toNat, h⟩ m j ↔ holds j := by
      unfold heldBy
      rw [sameClaim_iff, Ne, Fin.ext_iff]
    refine ⟨fun hmask => hrefused (State.ownSetRoute_of_badMask hmask),
      fun hmask hst hnamed => hrefused (State.ownSetRoute_of_wrongState h hmask hst (hfixed.mpr hnamed)),
      fun hmask hst => ?_⟩
    have hjudged := State.ownSetRoute_of_judged (s := u) h hmask (hst.imp_right (mt hfixed.mp))
    refine ⟨fun check hcheck => ?_, fun hnone hex => ?_, fun hnone hfree => ?_⟩
    · exact hrefused (hjudged.trans (State.judgeRoute_of_failing (hfailing.trans hcheck)))
    · cases hj : claimHolder u.routes ⟨q.route.toNat, h⟩ m with
      | none =>
        obtain ⟨j, hj'⟩ := hex
        exact absurd ((hholds j).mpr hj') (claimHolder_eq_none_iff.mp hj j)
      | some j =>
        exact ⟨j, (hholds j).mp (heldBy_of_claimHolder hj),
          hrefused (hjudged.trans (State.judgeRoute_of_taken (hfailing.trans hnone) hj))⟩
    · exact hexec (hjudged.trans (State.judgeRoute_of_fits h (hfailing.trans hnone)
        (claimHolder_eq_none_iff.mpr fun j => mt (hholds j).mp (hfree j))))
  · intro u
    refine ⟨fun h => ?_, fun h hst => ?_, fun h hst => ?_⟩
    · exact next_request (kind := 0x05) (owner := State.ownClearRoute i) hroom (dif_neg h.not_gt)
    · have howner : u.ownClearRoute i = ⟨u, .wrongState, .bare⟩ := (dif_pos h).trans (if_pos hst)
      exact next_request (kind := 0x05) hroom howner
    · intro cleared
      have howner : u.ownClearRoute i =
          ⟨u.withRoutes (u.routes.set i.toNat cleared), .ok, .route i (some cleared) false .none⟩ := by
        refine (dif_pos h).trans ((if_neg (not_not.mpr hst)).trans ?_)
        simp only [State.routeBody_of_route h, State.withRoutes_routes, Vector.getElem_set_self]
        rfl
      exact next_request (kind := 0x05) hroom howner

end

/-! ### EVENT_POST (R142 to R144) -/

namespace Sys2Proof.Machine

namespace State

variable {s : State} {q : PostRequest}

theorem doneCount_eq (s : State) :
    s.doneCount = (s.queue.filter fun e => decide (e.st = .done)).length :=
  List.countP_eq_length_filter

theorem admitsEvents_iff :
    s.admitsEvents = true ↔ s.ctrl.st = .rampIn ∨ s.ctrl.st = .live ∨ s.ctrl.st = .rampOut := by
  unfold admitsEvents
  split <;> simp_all

/-- The range checks of R142. -/
theorem postInRange_iff :
    postInRange q = true ↔
      q.kind.toNat ≤ 15 ∧ q.shape.toNat ≤ 15 ∧ 1 ≤ q.duration.toNat ∧ q.slipLimit.toNat ≤ 15 ∧
        1 ≤ q.destinations.toNat ∧ q.destinations.toNat ≤ 7 :=
  decide_eq_true_iff

/-- The first destination, in the order VISION, SOUND, CAB, whose port is not enabled (R142). -/
def disabledPort (q : PostRequest) (s : State) : Option Port :=
  (destinationsOf q.destinations).find? fun p => !(s.port p).cfg.enable

theorem disabledPort_eq_none_iff :
    s.disabledPort q = none ↔ ∀ p ∈ destinationsOf q.destinations, (s.port p).cfg.enable = true := by
  simp [disabledPort]

/-! #### The checks in their order -/

theorem ownEventPost_of_not_admits (h : s.admitsEvents = false) :
    s.ownEventPost q = ⟨s, .wrongState, s.postBody q none .none⟩ := by
  simp [ownEventPost, h]

theorem ownEventPost_of_out_of_range (h : s.admitsEvents = true) (hrange : postInRange q = false) :
    s.ownEventPost q = ⟨s, .badValue, s.postBody q none .none⟩ := by
  simp [ownEventPost, h, hrange]

section
variable (h : s.admitsEvents = true) (hrange : postInRange q = true)
include h hrange

theorem ownEventPost_of_disabled {p : Port} (hp : s.disabledPort q = some p) :
    s.ownEventPost q = ⟨s, .badValue, s.postBody q none (.notEnabled p)⟩ := by
  unfold disabledPort at hp
  simp [ownEventPost, h, hrange, hp]

variable (hports : s.disabledPort q = none)
include hports

theorem ownEventPost_of_bad_frame {r : Result} (hf : baseFrame s.clock q.frame = .error r) :
    s.ownEventPost q = ⟨s, r, s.postBody q none .none⟩ := by
  unfold disabledPort at hports
  simp only [ownEventPost, h, hrange, hports, hf, Bool.not_true, Bool.false_eq_true, if_false]

theorem ownEventPost_of_base {base : Frame} (hf : baseFrame s.clock q.frame = .ok base) :
    s.ownEventPost q = s.postFrom q base := by
  unfold disabledPort at hports
  simp only [ownEventPost, h, hrange, hports, hf, Bool.not_true, Bool.false_eq_true, if_false]

end

section
variable {c : Clock} {f : Frame}

theorem baseFrame_any (c : Clock) : baseFrame c 0xFFFF = .ok (c.current + 1) := by
  simp [baseFrame]

theorem baseFrame_of_ahead (hf : f ≠ 0xFFFF) (h1 : 1 ≤ (f - c.current).toNat)
    (h255 : (f - c.current).toNat ≤ 255) : baseFrame c f = .ok f := by
  unfold baseFrame frameDist
  dsimp only
  rw [if_neg hf, if_pos ⟨h1, h255⟩]

theorem baseFrame_of_late (hf : f ≠ 0xFFFF) (h : (f - c.current).toNat = 0 ∨ 32768 < (f - c.current).toNat) :
    baseFrame c f = .error .tooLate := by
  unfold baseFrame frameDist
  dsimp only
  rw [if_neg hf, if_neg (by omega), if_pos h]

theorem baseFrame_of_far (hf : f ≠ 0xFFFF) (h256 : 256 ≤ (f - c.current).toNat)
    (hhalf : (f - c.current).toNat < 32768) : baseFrame c f = .error .badValue := by
  unfold baseFrame frameDist
  dsimp only
  rw [if_neg hf, if_neg (by omega), if_neg (by omega), if_neg (by omega)]

end

theorem postFrom_of_tag {base : Frame} {e : Entry} (h : s.queue.find? (fun e => e.tag = q.eventTag) = some e) :
    s.postFrom q base = ⟨s, .tagInUse, s.postBody q none (.held e.st)⟩ := by
  simp [postFrom, h]

theorem find_tag_eq_none (htag : ∀ e ∈ s.queue, e.tag ≠ q.eventTag) :
    s.queue.find? (fun e => e.tag = q.eventTag) = none := by
  simpa using htag

theorem postFrom_of_full {base : Frame} (htag : ∀ e ∈ s.queue, e.tag ≠ q.eventTag)
    (hfull : 24 ≤ s.queue.length) :
    s.postFrom q base = ⟨s, .queueFull, s.postBody q none (.doneEntries s.doneCount)⟩ := by
  unfold postFrom
  rw [find_tag_eq_none htag]
  exact if_pos hfull

/-! #### The slip search (R143) -/

/-- No destination's release for `f` is past. -/
def inTime (dests : List Port) (f : Frame) (s : State) : Prop :=
  ∀ p ∈ dests, past (s.eventReleaseAt f p) s.now = false

theorem lateDestinations_isEmpty_iff {dests : List Port} {f : Frame} :
    (s.lateDestinations dests f).isEmpty = true ↔ s.inTime dests f := by
  simp [lateDestinations, inTime, List.filter_eq_nil_iff]

theorem slipSearch_of_inTime {dests : List Port} {f : Frame} (n used : Nat) (h : s.inTime dests f) :
    slipSearch s dests n used f = .ok (f, used) := by
  unfold slipSearch
  rw [if_pos (lateDestinations_isEmpty_iff.mpr h)]

theorem slipSearch_succ_of_not_inTime {dests : List Port} {f : Frame} (n used : Nat) (h : ¬s.inTime dests f) :
    slipSearch s dests (n + 1) used f = slipSearch s dests n (used + 1) (f + 1) := by
  conv_lhs => unfold slipSearch
  rw [if_neg (mt lateDestinations_isEmpty_iff.mp h)]

theorem frame_add_succ (f : Frame) (k : Nat) : f + 1 + BitVec.ofNat 16 k = f + BitVec.ofNat 16 (k + 1) := by
  rw [BitVec.ofNat_add, BitVec.add_assoc, BitVec.add_comm (BitVec.ofNat 16 k)]
  rfl

/-- The search takes the first frame in time. -/
theorem slipSearch_of_first {dests : List Port} {n k : Nat} (hk : k ≤ n) (used : Nat) (f : Frame)
    (hlate : ∀ j < k, ¬s.inTime dests (f + BitVec.ofNat 16 j)) (h : s.inTime dests (f + BitVec.ofNat 16 k)) :
    slipSearch s dests n used f = .ok (f + BitVec.ofNat 16 k, used + k) := by
  induction k generalizing n used f with
  | zero =>
    have hzero : f + BitVec.ofNat 16 0 = f := by simp
    rw [hzero] at h ⊢
    exact slipSearch_of_inTime n used h
  | succ k ih =>
    obtain ⟨n, rfl⟩ : ∃ m, n = m + 1 := ⟨n - 1, by omega⟩
    have hfirst : ¬s.inTime dests f := by simpa using hlate 0 (by omega)
    rw [slipSearch_succ_of_not_inTime n used hfirst, ih (by omega) (used + 1) (f + 1), frame_add_succ]
    · congr 2
      omega
    · intro j hj
      rw [frame_add_succ]
      exact hlate (j + 1) (by omega)
    · rwa [frame_add_succ]

/-- With no frame in time within the limit the search fails. -/
theorem slipSearch_of_none {dests : List Port} {n : Nat} (used : Nat) (f : Frame)
    (hlate : ∀ j ≤ n, ¬s.inTime dests (f + BitVec.ofNat 16 j)) :
    ∃ f', slipSearch s dests n used f = .error f' := by
  induction n generalizing used f with
  | zero =>
    have hfirst : ¬s.inTime dests f := by simpa using hlate 0 le_rfl
    refine ⟨f, ?_⟩
    unfold slipSearch
    rw [if_neg (mt lateDestinations_isEmpty_iff.mp hfirst)]
  | succ n ih =>
    have hfirst : ¬s.inTime dests f := by simpa using hlate 0 (by omega)
    rw [slipSearch_succ_of_not_inTime n used hfirst]
    refine ih (used + 1) (f + 1) fun j hj => ?_
    rw [frame_add_succ]
    exact hlate (j + 1) (by omega)

section
variable {base : Frame} (htag : ∀ e ∈ s.queue, e.tag ≠ q.eventTag) (hroom : s.queue.length < 24)
include htag hroom

theorem postFrom_of_late {f : Frame}
    (h : slipSearch s (destinationsOf q.destinations) q.slipLimit.toNat 0 base = .error f) :
    ∃ d, s.postFrom q base = ⟨s, .tooLate, s.postBody q none d⟩ := by
  unfold postFrom
  rw [find_tag_eq_none htag, h]
  exact ⟨_, if_neg hroom.not_ge⟩

theorem postFrom_of_found {f : Frame} {used : Nat}
    (h : slipSearch s (destinationsOf q.destinations) q.slipLimit.toNat 0 base = .ok (f, used)) :
    s.postFrom q base =
      ⟨s.admitEntry q f used, .ok, (s.admitEntry q f used).postBody q (some (f, used)) .none⟩ := by
  unfold postFrom
  rw [find_tag_eq_none htag, h]
  exact if_neg hroom.not_ge

end

/-! #### Admission (R140, R144) -/

/-- When each release lies ahead the entry joins with every destination WAITING. -/
theorem admitEntry_of_ahead {f : Frame} {used : Nat}
    (h : ∀ p ∈ destinationsOf q.destinations, reached (s.eventReleaseAt f p) s.now = false) :
    s.admitEntry q f used = s.withQueue (insertEntry (s.newEntry q f used) s.queue) := by
  have hdests : (s.newEntry q f used).dests.map (Destination.releaseIfReached s) = (s.newEntry q f used).dests := by
    refine List.map_eq_self_of_forall fun d hd => ?_
    obtain ⟨p, hp, rfl⟩ := List.mem_map.mp hd
    simp [Destination.releaseIfReached, h p hp]
  have hposted : posted q f used s = s.newEntry q f used := by
    unfold posted
    rw [hdests]
  have hwait : (s.newEntry q f used).dests.all Destination.isWaiting = true := by
    simp [newEntry, Destination.isWaiting]
  rw [admitEntry_eq, hposted, if_pos hwait]

theorem frameAfter_iff {a b : Frame} :
    frameAfter a b = true ↔ 1 ≤ (b - a).toNat ∧ (b - a).toNat ≤ 32767 := decide_eq_true_iff

/-- A new entry stands ahead of the first ACTIVE entry of a later frame (R140). -/
theorem insertEntry_split (e : Entry) (es : List Entry) :
    ∃ ahead behind, es = ahead ++ behind ∧
      (∀ x ∈ ahead, ¬(x.st = .active ∧ frameAfter e.frame x.frame = true)) ∧
      (∀ x, behind.head? = some x → x.st = .active ∧ frameAfter e.frame x.frame = true) ∧
      insertEntry e es = ahead ++ e :: behind := by
  induction es with
  | nil => exact ⟨[], [], rfl, by simp, by simp, rfl⟩
  | cons y ys ih =>
    by_cases hy : y.st = .active ∧ frameAfter e.frame y.frame = true
    · exact ⟨[], y :: ys, rfl, by simp, by simpa using hy, if_pos hy⟩
    · obtain ⟨ahead, behind, hsplit, hahead, hbehind, hinsert⟩ := ih
      exact ⟨y :: ahead, behind, by rw [hsplit]; rfl, List.forall_mem_cons.mpr ⟨hy, hahead⟩, hbehind,
        (if_neg hy).trans (congrArg (y :: ·) hinsert)⟩

/-- An ACTIVE entry that joins is not counted as DONE. -/
theorem doneCount_insertEntry {e : Entry} (h : e.st = .active) :
    (s.withQueue (insertEntry e s.queue)).doneCount = s.doneCount := by
  have hperm := (insertEntry_perm e s.queue).countP_eq Entry.isDone
  have he : e.isDone = false := by simp [Entry.isDone, h]
  simpa [doneCount, he] using hperm

end State
end Sys2Proof.Machine

section
open Sys2Proof Sys2Proof.Machine

/-- Settles O39: the checks of R142 in their order. -/
theorem eventPostRefusals : Obligations.EventPostRefusals := by
  unfold Obligations.EventPostRefusals
  intro dt tag q s hroom u done refused admits inRange named disabled ahead
  have hadmits : u.admitsEvents = true ↔ admits := State.admitsEvents_iff
  have hrange : State.postInRange q = true ↔ inRange := State.postInRange_iff
  have hrefused {r : Result} {d : PostDetail} (ha : u.ownEventPost q = ⟨u, r, u.postBody q none d⟩) :
      refused r d := by
    refine (next_request (kind := 0x10) hroom ha).trans ?_
    simp only [State.postBody, State.doneCount_eq]
    rfl
  refine ⟨fun hno => ?_, fun hyes hbad => ?_, fun hyes hgood => ?_⟩
  · exact hrefused (State.ownEventPost_of_not_admits (by simpa using mt hadmits.mp hno))
  · exact hrefused (State.ownEventPost_of_out_of_range (hadmits.mpr hyes) (by simpa using mt hrange.mp hbad))
  have hyes' := hadmits.mpr hyes
  have hgood' := hrange.mpr hgood
  have hmem (p : Port) : p ∈ State.destinationsOf q.destinations ↔ named p = true := by
    cases p <;> simp [State.destinationsOf, allPorts, named]
  have hdisabled : u.disabledPort q =
      [Port.vision, .sound, .cab].find? fun p => named p && !(u.port p).cfg.enable := by
    have hnames : State.destinationsOf q.destinations = [Port.vision, .sound, .cab].filter named := rfl
    rw [State.disabledPort, hnames, List.find?_filter]
    simp only [Bool.decide_and, Bool.decide_eq_true]
  have hfirst (p : Port) : disabled p ↔ (named p && !(u.port p).cfg.enable) = true := by simp [disabled]
  simp only [List.find?_cons, List.find?_nil] at hdisabled
  refine ⟨fun hv => ?_, fun hv hs => ?_, fun hv hs hc => ?_, fun hports => ?_⟩
  · refine hrefused (State.ownEventPost_of_disabled hyes' hgood' ?_)
    rw [hdisabled, (hfirst .vision).mp hv]
  · refine hrefused (State.ownEventPost_of_disabled hyes' hgood' ?_)
    rw [hdisabled, Bool.eq_false_iff.mpr (mt (hfirst .vision).mpr hv), (hfirst .sound).mp hs]
  · refine hrefused (State.ownEventPost_of_disabled hyes' hgood' ?_)
    rw [hdisabled, Bool.eq_false_iff.mpr (mt (hfirst .vision).mpr hv), Bool.eq_false_iff.mpr (mt (hfirst .sound).mpr hs),
      (hfirst .cab).mp hc]
  have hnone : u.disabledPort q = none := State.disabledPort_eq_none_iff.mpr fun p hp => by
    simpa [disabled, (hmem p).mp hp] using hports p
  refine ⟨fun hf hlate => ?_, fun hf h256 hhalf => ?_, fun hf => ?_⟩
  · exact hrefused (State.ownEventPost_of_bad_frame hyes' hgood' hnone (State.baseFrame_of_late hf hlate))
  · exact hrefused (State.ownEventPost_of_bad_frame hyes' hgood' hnone (State.baseFrame_of_far hf h256 hhalf))
  obtain ⟨base, hbase⟩ : ∃ base, State.baseFrame u.clock q.frame = .ok base := by
    by_cases hany : q.frame = 0xFFFF
    · rw [hany]
      exact ⟨_, State.baseFrame_any _⟩
    · obtain ⟨h1, h255⟩ := hf.resolve_left hany
      exact ⟨_, State.baseFrame_of_ahead hany h1 h255⟩
  have hfrom := State.ownEventPost_of_base hyes' hgood' hnone hbase
  refine ⟨fun e he => ?_, fun htag hfull => ?_⟩
  · exact hrefused (hfrom.trans (State.postFrom_of_tag he))
  · refine hrefused (hfrom.trans ((State.postFrom_of_full htag hfull).trans ?_))
    rw [State.doneCount_eq]

/-- Settles O38: the base frame, the slip search from it, and the admission (R142 to R144). -/
theorem eventPostAdmitsTheFirstFrameInTime : Obligations.EventPostAdmitsTheFirstFrameInTime := by
  unfold Obligations.EventPostAdmitsTheFirstFrameInTime
  intro dt tag q s base hroom u c dests latestAt releaseAt inTime done hst hkind hshape hduration hslip
    hset1 hset7 hports hframe htag hlength
  have hrange := State.postInRange_iff.mpr ⟨hkind, hshape, hduration, hslip, hset1, hset7⟩
  have hnone : u.disabledPort q = none := State.disabledPort_eq_none_iff.mpr hports
  have hbase : State.baseFrame u.clock q.frame = .ok base := by
    obtain ⟨hany, rfl⟩ | ⟨hf, rfl, h1, h255⟩ := hframe
    · rw [hany]
      exact State.baseFrame_any _
    · exact State.baseFrame_of_ahead hf h1 h255
  have hfrom := State.ownEventPost_of_base (State.admitsEvents_iff.mpr hst) hrange hnone hbase
  refine ⟨fun k hk hlate => ?_, fun hlate => ?_⟩
  · intro f hahead e later
    have hin : u.inTime dests f := fun p hp => by
      have hnot := hahead p hp
      simp only [reached, past, decide_eq_false_iff_not] at hnot ⊢
      change ¬0 < diff u.now (releaseAt f p)
      omega
    have hsearch := State.slipSearch_of_first hk 0 base hlate hin
    rw [Nat.zero_add] at hsearch
    have howner := hfrom.trans (State.postFrom_of_found htag hlength hsearch)
    have hadmit : u.admitEntry q f k = u.withQueue (insertEntry e u.queue) :=
      State.admitEntry_of_ahead hahead
    obtain ⟨before, behind, hsplit, hbefore, hbehind, hinsert⟩ := State.insertEntry_split e u.queue
    have hlater (x : Entry) : x.st = .active ∧ frameAfter e.frame x.frame = true ↔ later x :=
      and_congr_right fun _ => State.frameAfter_iff
    refine ⟨before, behind, hsplit, fun x hx => mt (hlater x).mpr (hbefore x hx),
      fun x hx => (hlater x).mp (hbehind x hx), ?_⟩
    refine (next_request (kind := 0x10) hroom howner).trans ?_
    rw [hadmit, State.postBody, State.doneCount_insertEntry rfl, State.doneCount_eq]
    have hlen : (insertEntry e u.queue).length = u.queue.length + 1 := by
      simpa using (State.insertEntry_perm e u.queue).length_eq
    rw [State.withQueue_queue, hlen, hinsert]
    rfl
  · obtain ⟨f, hf⟩ := State.slipSearch_of_none 0 base hlate
    obtain ⟨d, hd⟩ := State.postFrom_of_late htag hlength hf
    refine ⟨d, (next_request (kind := 0x10) hroom (hfrom.trans hd)).trans ?_⟩
    simp only [State.postBody, State.doneCount_eq]
    rfl

end

/-! ### EVENT_CANCEL, READ_STAMPS, READ_OUTCOMES and STAMP_NOW (R153, R156, R163 to R166) -/

namespace Sys2Proof.Machine

namespace State

variable {s : State}

/-! #### EVENT_CANCEL -/

theorem isWaiting_iff {d : Destination} : d.isWaiting = true ↔ ∃ r l, d.state = .waiting r l := by
  unfold Destination.isWaiting
  split
  · next r l h => simp [h]
  · next h => simpa using h

theorem cancellable_iff {e : Entry} :
    cancellable e = true ↔ e.st = .active ∧ ∀ d ∈ e.dests, ∃ r l, d.state = .waiting r l := by
  simp [cancellable, isWaiting_iff]

theorem drop_of_waiting {d : Destination} (h : ∃ r l, d.state = .waiting r l) :
    d.drop = { d with state := .dropped } := if_pos (pending_of_isWaiting (isWaiting_iff.mpr h))

/-- A tag that one entry carries finds that entry. -/
theorem find_tag_of_mem (htags : s.tagsFit) {e : Entry} (he : e ∈ s.queue) :
    s.queue.find? (fun x => x.tag = e.tag) = some e := by
  obtain ⟨x, hx⟩ := Option.isSome_iff_exists.mp
    (List.find?_isSome.mpr (⟨e, he, by simp⟩ : ∃ x ∈ s.queue, decide (x.tag = e.tag) = true))
  have htag : x.tag = e.tag := by simpa using List.find?_some hx
  rw [hx, List.inj_on_of_nodup_map htags (List.mem_of_find?_eq_some hx) he htag]

theorem replied_eq (kind tag : Byte) (result : Result) (body : ReplyBody) (s : State) :
    s.replied kind tag result body = s.withLink (s.replied kind tag result body).link := rfl

/-- A cancelled entry is DROPPED and DONE in its place (R153). -/
theorem cancel_markDone (htags : s.tagsFit) {e : Entry} (he : e ∈ s.queue) (hst : e.st = .active)
    (hwait : ∀ d ∈ e.dests, ∃ r l, d.state = .waiting r l) :
    ((s.mapDests fun x d => if x.tag = e.tag then d.drop else d).markDone e.tag) =
      s.withQueue (s.queue.map fun x =>
        if x.tag = e.tag then
          { x with st := .done, dests := e.dests.map fun d => { d with state := .dropped } }
        else x) := by
  unfold markDone mapDests
  refine congrArg s.withQueue ((List.map_map ..).trans (List.map_congr_left fun x hx => ?_))
  dsimp only [Function.comp_apply]
  by_cases htag : x.tag = e.tag
  · obtain rfl : x = e := List.inj_on_of_nodup_map htags hx he htag
    have hdests : x.dests.map (fun d => if x.tag = x.tag then d.drop else d) =
        x.dests.map fun d => { d with state := .dropped } :=
      List.map_congr_left fun d hd => (if_pos rfl).trans (drop_of_waiting (hwait d hd))
    rw [Entry.mapActive_of_active hst, hdests]
    simp [Entry.finished, hst, Destination.pending]
  · simp [Entry.mapActive, htag]

end State
end Sys2Proof.Machine

section
open Sys2Proof Sys2Proof.Machine

/-- Settles O41: the entry of the tag, whether each destination waits, and the drop with its notice (R153). -/
theorem eventCancelDropsAWaitingEntry : Obligations.EventCancelDropsAWaitingEntry := by
  unfold Obligations.EventCancelDropsAWaitingEntry
  intro dt tag eventTag s hroom u c report
  refine ⟨fun hnone => ?_, fun htags e he htag => ⟨fun hbusy => ?_, fun hst hwait => ?_⟩⟩
  · have hfind : u.queue.find? (fun e => e.tag = eventTag) = none := by simpa using hnone
    have howner : u.ownEventCancel eventTag = ⟨u, .noEntry, .bare⟩ := by
      simp only [State.ownEventCancel, hfind]
    exact next_request (kind := 0x11) hroom howner
  · have hfind := State.find_tag_of_mem htags he
    rw [htag] at hfind
    have hno : ¬State.cancellable e = true := by
      rw [State.cancellable_iff]
      rintro ⟨hst, hwait⟩
      obtain hdone | ⟨d, hd, hnot⟩ := hbusy
      · rw [hdone] at hst
        cases hst
      · obtain ⟨r, l, hrl⟩ := hwait d hd
        exact hnot r l hrl
    have howner : u.ownEventCancel eventTag = ⟨u, .inProgress, State.cancelBody e⟩ := by
      simp [State.ownEventCancel, hfind, hno]
    exact next_request (kind := 0x11) hroom howner
  · intro dropped queue
    subst htag
    have hfind := State.find_tag_of_mem htags he
    have hyes : State.cancellable e = true := State.cancellable_iff.mpr ⟨hst, hwait⟩
    have hdropped : e.dests.map Destination.drop = dropped :=
      List.map_congr_left fun d hd => State.drop_of_waiting (hwait d hd)
    have hfinished : ({ e with dests := dropped } : Entry).finished = true := by
      simp [Entry.finished, hst, dropped, Destination.pending]
    have howner : u.ownEventCancel e.tag =
        ⟨(u.mapDests fun x d => if x.tag = e.tag then d.drop else d).settleEntry { e with dests := dropped },
          .ok, report { e with dests := dropped }⟩ := by
      simp only [State.ownEventCancel, hfind, hyes, if_true, hdropped]
      rfl
    have hmark : (u.mapDests fun x d => if x.tag = e.tag then d.drop else d).markDone e.tag =
        u.withQueue queue := State.cancel_markDone htags he hst hwait
    rw [State.settleEntry_of_finished hfinished] at howner
    simp only [hmark] at howner
    refine ⟨_, next_request (kind := 0x11) hroom howner, ?_, ?_, fun hbusy => ?_⟩
    · rfl
    · simp [replyKind]
    · have houtcomes : dropped.map (fun d => (d.port, d.outcome)) = dropped.map fun d => (d.port, .dropped) := by
        simp [dropped, Destination.outcome]
      refine ((State.notes_replied _ _ _ _ _).outcomes ((State.notes_placeOutcomes _ _).busy hbusy)).trans ?_
      rw [State.placeOutcomes_of_busy _ (by exact hbusy), houtcomes, State.doneCount_eq]
      rfl

end

namespace Sys2Proof.Machine
namespace State

variable {s : State}

theorem notes_placeStamps (n : StampsNotice) (s : State) : Notes [.stamps] s (s.placeStamps n) := by
  refine ⟨placeSlots_framer _, fun h => ?_⟩
  rw [placeStamps_of_busy n h]
  exact ⟨rfl, fun x hx => by cases x <;> simp_all [Slot.same]⟩

/-! #### READ_OUTCOMES -/

/-- Of the DONE entries those nearest the head leave, and no other (R156). -/
theorem dropDone_filter (n : Nat) (es : List Entry) :
    (dropDone n es).filter Entry.isDone = (es.filter Entry.isDone).drop n ∧
      (dropDone n es).filter (fun e => !e.isDone) = es.filter fun e => !e.isDone := by
  fun_induction dropDone n es with
  | case1 es => simp
  | case2 n => simp
  | case3 n e es hdone ih => simpa [hdone] using ih
  | case4 n e es hdone ih => simpa [hdone] using ih

/-! #### STAMP_NOW -/

theorem writeStamp_of_full (source : StampSource) (edge : EdgeKind) (t : Instant) (h : 32 ≤ s.cab.fifo.length) :
    s.writeStamp source edge t = s.withCab { s.cab with gapPending := true } := if_pos h

/-- The stamp of an instant, by its place in the ring (R163, R164). -/
def stampAt (source : StampSource) (edge : EdgeKind) (t : Instant) (s : State) : Stamp :=
  ⟨source, edge, (s.clock.locate t).1, (s.clock.locate t).2, s.cab.gapPending⟩

/-- The state with the stamp at the tail of its FIFO (R164). -/
def stamped (source : StampSource) (edge : EdgeKind) (t : Instant) (s : State) : State :=
  s.withCab { s.cab with fifo := s.cab.fifo ++ [s.stampAt source edge t], gapPending := false }

theorem writeStamp_of_room (source : StampSource) (edge : EdgeKind) (t : Instant) (h : s.cab.fifo.length < 32) :
    s.writeStamp source edge t =
      if s.cab.fifo = [] then
        (s.stamped source edge t).placeStamps ⟨s.stampAt source edge t, 1, s.clock.current⟩
      else s.stamped source edge t := by
  refine (if_neg h.not_ge).trans ?_
  dsimp only
  by_cases hempty : s.cab.fifo = []
  · rw [if_pos hempty, if_pos (by simp [hempty])]
    simp [hempty, stamped, stampAt]
  · rw [if_neg hempty, if_neg (by simpa using hempty)]
    rfl

theorem notes_writeStamp (source : StampSource) (edge : EdgeKind) (t : Instant) (s : State) :
    Notes [.stamps] s (s.writeStamp source edge t) := by
  by_cases hfull : 32 ≤ s.cab.fifo.length
  · rw [writeStamp_of_full _ _ _ hfull]
    exact .of_link_eq rfl
  · rw [writeStamp_of_room _ _ _ (by omega)]
    split_ifs
    · exact (notes_placeStamps _ _).after rfl
    · exact .of_link_eq rfl

end State

/-- A distance within the half range, as it is counted (R1). -/
theorem toNat_diff {a b : Instant} (h : 0 ≤ diff b a) : (diff b a).toNat = (b - a).toNat := by
  unfold diff at h ⊢
  rw [BitVec.toInt_eq_toNat_cond] at h ⊢
  split_ifs at h ⊢ <;> omega

/-- An instant lies in the newest frame of the ring that has begun by then (R163). -/
theorem Clock.locate_of_begun {c : Clock} {newer older : List RingEntry} {e : RingEntry} {t : Instant}
    (hring : c.ring = newer ++ e :: older) (hnewer : ∀ x ∈ newer, diff t x.start < 0)
    (he : 0 ≤ diff t e.start) : c.locate t = (e.frame, (diff t e.start).toNat) := by
  have hnone : newer.find? (fun x => reached x.start t) = none :=
    List.find?_eq_none.mpr fun x hx => by simpa [reached] using hnewer x hx
  have hfind : c.ring.find? (fun x => reached x.start t) = some e := by
    rw [hring, List.find?_append, hnone]
    simp [reached, he]
  simp [locate, hfind, toNat_diff he]

/-- An instant before every frame of the ring counts as the start of the oldest one (R163). -/
theorem Clock.locate_of_before {c : Clock} {newer : List RingEntry} {e : RingEntry} {t : Instant}
    (hring : c.ring = newer ++ [e]) (hall : ∀ x ∈ c.ring, diff t x.start < 0) :
    c.locate t = (e.frame, 0) := by
  have hnone : c.ring.find? (fun x => reached x.start t) = none :=
    List.find?_eq_none.mpr fun x hx => by simpa [reached] using hall x hx
  have hlast : c.ring.getLast? = some e := by simp [hring]
  simp [locate, hnone, hlast]

end Sys2Proof.Machine

section
open Sys2Proof Sys2Proof.Machine

/-- Settles O46: the counts of R156 and R166, and what leaves the FIFO and the queue. -/
theorem readsCollectTheOldest : Obligations.ReadsCollectTheOldest := by
  unfold Obligations.ReadsCollectTheOldest
  refine ⟨fun dt tag count s hroom => ?_, fun dt tag count s hroom => ?_⟩
  · intro u
    refine (next_request (kind := 0x14) (owner := State.ownReadStamps count) hroom rfl).trans ?_
    unfold State.ownReadStamps State.countAllowed
    simp only [decide_eq_true_eq]
    split_ifs
    · simp only [List.length_drop]
      rfl
    · rfl
  · intro u isDone reported
    refine ⟨fun hbad => ?_, fun h1 h8 => ?_⟩
    · have hcount : ¬State.countAllowed count = true := by
        simp only [State.countAllowed, decide_eq_true_eq]
        omega
      exact next_request (kind := 0x12) (owner := State.ownReadOutcomes count) hroom (if_neg hcount)
    · obtain ⟨hdone, hrest⟩ := State.dropDone_filter count.toNat u.queue
      have hcount : State.countAllowed count = true := decide_eq_true ⟨h1, h8⟩
      refine ⟨_, hdone, hrest, State.dropDone_sublist _ _, ?_⟩
      refine (next_request (kind := 0x12) (owner := State.ownReadOutcomes count) hroom (if_pos hcount)).trans ?_
      simp only [State.doneCount, List.countP_eq_length_filter, State.withQueue_queue]
      rfl

/-- Settles O45: STAMP_NOW by the room in the FIFO, and the place of an instant by the ring (R163 to R165). -/
theorem stampNowMarksTheInstant : Obligations.StampNowMarksTheInstant := by
  unfold Obligations.StampNowMarksTheInstant
  refine ⟨fun dt tag s hroom => ?_, fun c newer older e t hring => ⟨fun hnewer he => ?_, fun hlast hall => ?_⟩⟩
  · intro u place stamp
    have hexec {a : Answer} (ha : u.ownStampNow = a) := next_request (tag := tag) (kind := 0x13) hroom ha
    refine ⟨fun hst => hexec (if_pos hst), fun hst hfull => ?_, fun hst hspace => ?_⟩
    · have howner : u.ownStampNow =
          ⟨u.withCab { u.cab with gapPending := true }, .ok,
            .stampNow place.1 place.2 false u.cab.fifo.length⟩ := by
        refine (if_neg hst).trans ?_
        simp [State.writeStamp_of_full _ _ _ hfull, Config.stampFifoSize, hfull.not_gt, place]
      exact hexec howner
    · have hwrite := State.writeStamp_of_room .linkRequest .request u.now hspace
      generalize hv : u.writeStamp .linkRequest .request u.now = v at hwrite
      have hvbusy (hbusy : u.link.tx ≠ .idle) : v.link.tx ≠ .idle :=
        hv ▸ (State.notes_writeStamp .linkRequest .request u.now u).busy hbusy
      have hveq : v = (u.stamped .linkRequest .request u.now).withLink v.link := by
        rw [hwrite]
        split_ifs <;> rfl
      have hcab : v.cab = (u.stamped .linkRequest .request u.now).cab := (congrArg State.cab hveq).trans rfl
      have howner : u.ownStampNow =
          ⟨v, .ok, .stampNow place.1 place.2 true (u.cab.fifo.length + 1)⟩ := by
        refine (if_neg hst).trans ?_
        simp [hv, hcab, State.stamped, Config.stampFifoSize, hspace, place]
      refine ⟨_, hexec howner, ?_, ?_, fun hbusy => ?_⟩
      · dsimp only
        rw [State.replied_eq, hveq]
        rfl
      · rw [State.replied_replies, hwrite]
        split_ifs <;> simp [State.stamped, replyKind]
      · rw [(State.notes_replied _ _ _ _ _).stamps (hvbusy hbusy), hwrite]
        split_ifs with hempty
        · rw [State.placeStamps_of_busy _ (by exact hbusy)]
          rfl
        · rfl
  · exact Clock.locate_of_begun hring hnewer he
  · subst hlast
    exact Clock.locate_of_before hring hall

end

/-! ### The words of a packet (R99 to R102, 11.3) -/

namespace Sys2Proof.Machine

namespace Packet

/-- Rows of `w` cells, one after the other. -/
theorem flatten_rows {α : Type} (f : Nat → α) (w m : Nat) :
    ((List.range m).map fun i => (List.range w).map fun j => f (i * w + j)).flatten =
      (List.range (m * w)).map f := by
  induction m with
  | zero => simp
  | succ m ih =>
    rw [List.range_succ, List.map_append, List.flatten_append, ih, Nat.succ_mul, List.range_add,
      List.map_append]
    simp

/-- A list read past its end is filled up. -/
theorem map_getD_range {α : Type} (xs : List α) (d : α) (n : Nat) :
    (List.range (xs.length + n)).map (fun i => xs.getD i d) = xs ++ List.replicate n d := by
  refine List.ext_getElem (by simp) fun i h h' => ?_
  rw [List.getElem_map, List.getElem_range, List.getElem_append]
  split_ifs with hi
  · simp [hi]
  · simp [Nat.not_lt.mp hi]

theorem foldl_add (a : Word) (xs : List Word) : xs.foldl (· + ·) a = a + xs.sum := by
  induction xs generalizing a with
  | nil => simp
  | cons x xs ih => simp [ih, BitVec.add_assoc]

/-- The payload is the values in send order, filled up with 0 to whole beats (R100). -/
theorem payloadBeats_flatten {w : Nat} (hw : 0 < w) (k : Packet) :
    ∃ n, (k.payloadBeats w).flatten = k.values ++ List.replicate n 0 ∧ n < w := by
  have hdiv := Nat.div_add_mod (k.values.length + w - 1) w
  have hmod := Nat.mod_lt (k.values.length + w - 1) hw
  have hceil : ceilDiv k.values.length w = (k.values.length + w - 1) / w := rfl
  have hcover : ceilDiv k.values.length w * w =
      k.values.length + (ceilDiv k.values.length w * w - k.values.length) := by
    rw [hceil, Nat.mul_comm]
    omega
  refine ⟨ceilDiv k.values.length w * w - k.values.length, ?_, ?_⟩
  · unfold payloadBeats
    rw [flatten_rows (fun i => k.values.getD i 0), hcover, map_getD_range]
    simp
  · rw [hceil, Nat.mul_comm]
    omega

theorem trailer_eq {w : Nat} (hw : 0 < w) (k : Packet) :
    k.trailer w = k.header1 + k.header2 + k.values.sum := by
  obtain ⟨n, hflat, -⟩ := payloadBeats_flatten hw k
  rw [trailer, hflat, foldl_add, List.sum_append]
  simp

/-- The number that bits 10 .. 0 of header word 1 hold. -/
def lowField (k : Packet) : Nat := if k.kind = .echo then k.echoNumber.toNat else k.firstSlot * 64 + k.count

theorem header1_toNat {k : Packet} (hfirst : k.firstSlot ≤ 31) (hcount : k.count ≤ 32) :
    k.lowField < 2048 ∧
      k.header1.toNat =
        k.kind.code * 8192 + flagBit k.degraded * 4096 + flagBit k.ramping * 2048 + k.lowField := by
  have hecho := k.echoNumber.isLt
  have hlow : k.lowField < 2048 := by
    unfold lowField
    split <;> omega
  have hcode : k.kind.code ≤ 5 := by cases k.kind <;> simp [PacketKind.code]
  have hflag (b : Bool) : flagBit b ≤ 1 := by cases b <;> simp [flagBit]
  have hd := hflag k.degraded
  have hr := hflag k.ramping
  refine ⟨hlow, ?_⟩
  change (BitVec.ofNat 16 (_ + k.lowField)).toNat = _
  rw [BitVec.toNat_ofNat]
  exact Nat.mod_eq_of_lt (by omega)

theorem flagBit_eq_one_iff (b : Bool) : flagBit b = 1 ↔ b = true := by cases b <;> simp [flagBit]

end Packet
end Sys2Proof.Machine

section
open Sys2Proof Sys2Proof.Machine

/-- Settles O50: the rows of payload words flattened, and header word 1 as the number its fields make. -/
theorem packetsCarryTheirValuesAndSum : Obligations.PacketsCarryTheirValuesAndSum := by
  unfold Obligations.PacketsCarryTheirValuesAndSum
  refine ⟨fun w k hw => ?_, fun k hfirst hcount => ?_⟩
  · have hpos : 0 < w := by omega
    refine ⟨?_, rfl, rfl, fun beat hbeat => ?_, Packet.payloadBeats_flatten hpos k, Packet.trailer_eq hpos k⟩
    · simp [Packet.beats, Packet.payloadBeats, Packet.beatCount]
      omega
    · obtain ⟨i, -, rfl⟩ := List.mem_map.mp hbeat
      simp
  · intro bits
    obtain ⟨hlow, hnat⟩ := Packet.header1_toNat hfirst hcount
    have hbits (low n : Nat) : bits low n = k.header1.toNat / 2 ^ low % 2 ^ n := by
      simp [bits, BitVec.extractLsb'_toNat, Nat.shiftRight_eq_div_pow]
    have hbit (i : Nat) : k.header1.getLsbD i = decide (k.header1.toNat / 2 ^ i % 2 = 1) := by
      rw [← BitVec.testBit_toNat, Nat.testBit_eq_decide_div_mod_eq]
    have hdle : flagBit k.degraded ≤ 1 := by cases k.degraded <;> simp [flagBit]
    have hrle : flagBit k.ramping ≤ 1 := by cases k.ramping <;> simp [flagBit]
    have hd := Packet.flagBit_eq_one_iff k.degraded
    have hr := Packet.flagBit_eq_one_iff k.ramping
    refine ⟨?_, ?_, ?_, fun hkind => ?_, fun hkind => ?_, rfl⟩
    · rw [hbits, hnat]
      cases k.kind <;> simp only [PacketKind.code] <;> omega
    · have hone : (k.header1.toNat / 2 ^ 12 % 2 = 1) ↔ flagBit k.degraded = 1 := by omega
      rw [hbit, Bool.eq_iff_iff, decide_eq_true_iff]
      exact hone.trans hd
    · have hone : (k.header1.toNat / 2 ^ 11 % 2 = 1) ↔ flagBit k.ramping = 1 := by omega
      rw [hbit, Bool.eq_iff_iff, decide_eq_true_iff]
      exact hone.trans hr
    · have hfield : k.lowField = k.firstSlot * 64 + k.count := if_neg hkind
      rw [hbits, hbits, hnat]
      omega
    · have hfield : k.lowField = k.echoNumber.toNat := if_pos hkind
      have hecho := k.echoNumber.isLt
      rw [hbits, hbits, hnat]
      omega

end

/-! ### The value of a slot (R65 to R74) -/

namespace Sys2Proof.Machine

/-- Rounding halves away from zero, in both spellings. -/
theorem roundDiv_eq_nearest (a : Int) (b : Nat) : roundDiv a b = nearest a b := by
  unfold roundDiv nearest
  have hhalf : b / (2 * b) = 0 := by
    rcases Nat.eq_zero_or_pos b with rfl | hb
    · simp
    · exact Nat.div_eq_of_lt (by omega)
  obtain hneg | rfl | hpos := lt_trichotomy a 0
  · have habs : (a.natAbs : Int) = -a := by omega
    rw [if_neg (by omega), Int.sign_eq_neg_one_of_neg hneg]
    push_cast
    rw [← Int.natCast_natAbs, habs]
    ring
  · simpa using congrArg (Nat.cast : Nat → Int) hhalf
  · have habs : (a.natAbs : Int) = a := by omega
    rw [if_pos hpos.le, Int.sign_eq_one_of_pos hpos]
    push_cast
    rw [← Int.natCast_natAbs, habs]
    ring

theorem toInt_bounds (v : Cue) : -32768 ≤ v.toInt ∧ v.toInt ≤ 32767 := by
  have hlo := BitVec.le_toInt v
  have hhi := BitVec.toInt_lt (x := v)
  omega

theorem toInt_ofInt_of_bounds {x : Int} (hlo : -32768 ≤ x) (hhi : x ≤ 32767) :
    (BitVec.ofInt 16 x).toInt = x := by
  rw [BitVec.toInt_ofInt, Int.bmod_eq_of_le (by omega) (by omega)]

theorem toInt_saturate (x : Int) : (saturate x).toInt = held16 x := by
  unfold saturate clampInt held16
  exact toInt_ofInt_of_bounds (by omega) (by omega)

namespace Route

variable {r : Route}

theorem clamp_bounds (r : Route) (x : Int) : -32768 ≤ r.clamp x ∧ r.clamp x ≤ 32767 := by
  have hlo := toInt_bounds r.lo
  have hhi := toInt_bounds r.hi
  unfold clamp clampInt
  omega

/-- The value that enters the ramp: held within lo .. hi, or the rest value (R70, R74). -/
def entering (channels : Vector Channel 48) (gens : Vector Generator 4) (p : Instant) (r : Route) : Int :=
  ((r.scaled channels gens p).map fun s => r.clamp s.toInt).getD r.rest.toInt

/-- The stages after the clamp. -/
theorem toInt_compute (channels : Vector Channel 48) (gens : Vector Generator 4) (f : Nat) (p : Instant)
    (r : Route) :
    (r.compute channels gens f p).toInt = r.clamp (r.limitSlew (r.ramp f (r.entering channels gens p))) := by
  have hentering : (r.compute channels gens f p) =
      BitVec.ofInt 16 (r.clamp (r.limitSlew (r.ramp f (r.entering channels gens p)))) := by
    unfold compute entering
    cases r.scaled channels gens p <;> rfl
  rw [hentering]
  exact toInt_ofInt_of_bounds (clamp_bounds _ _).1 (clamp_bounds _ _).2

theorem limitSlew_of_zero (h : r.slew = 0) (x : Int) : r.limitSlew x = x := if_pos h

/-- A limited step, by its distance from last (R72). -/
theorem limitSlew_eq (r : Route) (x : Int) :
    r.limitSlew x =
      if r.slew = 0 ∨ |x - r.last.toInt| ≤ r.slew then x
      else if r.last.toInt < x then r.last.toInt + r.slew
      else r.last.toInt - r.slew := by
  unfold limitSlew
  simp only [abs_le]
  split_ifs <;> omega

theorem abs_limitSlew_sub_last (h : r.slew ≠ 0) (x : Int) : |r.limitSlew x - r.last.toInt| ≤ r.slew := by
  rw [abs_le]
  unfold limitSlew
  split_ifs <;> omega

/-- At f 0 the ramp is at rest. -/
theorem ramp_zero (r : Route) (s : Int) : r.ramp 0 s = r.rest.toInt := by
  simp [ramp, roundDiv]

/-- At f 256 the ramp lets the value through. -/
theorem ramp_full (r : Route) (s : Int) : r.ramp 256 s = s := by
  unfold ramp roundDiv
  split_ifs <;> omega

end Route

/-! #### The source values -/

theorem Channel.fadeValue_eq (c : Channel) (v : Cue) (age : Nat) :
    c.fadeValue v age =
      nearest (v.toInt * ((c.fadeFrames - min age c.fadeFrames : Nat) : Int)) c.fadeFrames := by
  unfold fadeValue
  dsimp only
  rw [roundDiv_eq_nearest, Int.ofNat_sub (Nat.min_le_right _ _)]

theorem Route.predict_eq (leadMax : Nat) (o n : Sample) (p : Instant) :
    predict leadMax o n p =
      held16 (n.value.toInt +
        nearest ((n.value.toInt - o.value.toInt) * max 0 (min (leadMax : Int) (diff p n.instant)))
          (diff n.instant o.instant).toNat) := by
  simp [predict, toInt_saturate, roundDiv_eq_nearest, clampInt]

theorem Route.toInt_scale (r : Route) (x : Int) :
    (r.scale x).toInt = held16 (nearest (x * r.gain.toInt) 4096 + r.offset.toInt) := by
  rw [scale, toInt_saturate, roundDiv_eq_nearest]

theorem Generator.rate_eq (g : Generator) :
    g.rate = if g.mode = .periodic then min 32767 (nearest 10000000 g.periodInUse) else 0 := by
  have hnonneg : 0 ≤ nearest 10000000 g.periodInUse :=
    mul_nonneg (by decide) (Int.natCast_nonneg _)
  unfold rate
  cases g.mode with
  | periodic =>
    simp only [toInt_saturate, roundDiv_eq_nearest, held16, if_true]
    omega
  | off => simp
  | oneShot => simp

end Sys2Proof.Machine

section
open Sys2Proof Sys2Proof.Machine

/-- Settles O25: the stages one by one, and what the last three keep (R65 to R74). -/
theorem slotValueKeepsLimitsSlewAndRamp : Obligations.SlotValueKeepsLimitsSlewAndRamp := by
  unfold Obligations.SlotValueKeepsLimitsSlewAndRamp
  refine ⟨fun r channels gens f p hlo hhi => ?_, fun r channels gens f p => ?_⟩
  · intro v
    have hv : v = r.clamp (r.limitSlew (r.ramp f (r.entering channels gens p))) := Route.toInt_compute ..
    rw [hv]
    refine ⟨?_, fun hslew hl hh => ?_, fun hf hslew => ?_, fun hf hslew hconst => ?_⟩
    · unfold Route.clamp clampInt
      omega
    · have hlimit := Route.abs_limitSlew_sub_last hslew (r.ramp f (r.entering channels gens p))
      rw [abs_le] at hlimit ⊢
      unfold Route.clamp clampInt
      omega
    · subst hf
      rw [Route.limitSlew_of_zero hslew, Route.ramp_zero]
      unfold Route.clamp clampInt
      omega
    · subst hf
      have hentering : r.entering channels gens p = r.clamp r.offset.toInt := by
        simp [Route.entering, Route.scaled, hconst]
      rw [Route.limitSlew_of_zero hslew, Route.ramp_full, hentering]
      unfold Route.clamp clampInt
      omega
  · intro channelValue period level rate scaled source target ramped slewed
    have hchannel (c : Channel) : Route.channelValue r.lead c p = channelValue c := by
      simp only [Route.channelValue, channelValue]
      cases c.stream with
      | empty => rfl
      | single n => rfl
      | tracking o n => simp only [Route.predict_eq]
      | stale n age =>
        unfold Channel.staleValue
        cases c.stalePolicy with
        | hold => rfl
        | fade => exact congrArg some (Channel.fadeValue_eq c n.value age)
        | zero => rfl
    have hlevel (g : Generator) : g.level p = level g := by
      simp only [Generator.level, Generator.periodicLevel, Generator.pulseLevel, level]
      cases g.mode with
      | off => rfl
      | periodic =>
        match g.anchor with
        | .at a => exact apply_ite BitVec.toInt _ _ _
        | .pending => cases g.triggerAt <;> rfl
        | .absent => cases g.triggerAt <;> rfl
      | oneShot =>
        cases g.triggerAt with
        | none => cases g.anchor <;> rfl
        | some a => cases g.anchor <;> exact apply_ite BitVec.toInt _ _ _
    have hrate (g : Generator) : g.rate = rate g := g.rate_eq
    have hsource : (r.scaled channels gens p).map BitVec.toInt = source := by
      simp only [Route.scaled, source]
      cases r.source with
      | none => rfl
      | stream n =>
        simp only [hchannel, Option.map_map]
        exact congrArg (Option.map · (channelValue _)) (funext fun x => r.toInt_scale x)
      | genLevel g => simp only [hlevel, Option.map_some, Route.toInt_scale, scaled]
      | genRate g => simp only [hrate, Option.map_some, Route.toInt_scale, scaled]
      | const => rfl
    have htarget : r.entering channels gens p = target := by
      simp only [Route.entering, target, ← hsource]
      cases r.scaled channels gens p <;> rfl
    have hramped : r.ramp f (r.entering channels gens p) = ramped := by
      rw [htarget, Route.ramp, roundDiv_eq_nearest]
    rw [Route.toInt_compute, hramped, Route.limitSlew_eq]
    rfl

end

/-! ### SET_TRIGGERS and SET_RESUME (R159, R168) -/

namespace Sys2Proof.Machine

theorem triggerTypeOf_isSome_iff (b : Byte) : (triggerTypeOf b).isSome = true ↔ b.toNat ≤ 5 := by
  unfold triggerTypeOf
  split <;> simp_all
  omega

theorem lineOf_of_le {b : Byte} (h : b.toNat ≤ 15) : ∃ line : Fin 16, lineOf b = some line ∧ line.val = b.toNat :=
  ⟨⟨b.toNat, by omega⟩, dif_pos (by omega), rfl⟩

theorem lineOf_of_gt {b : Byte} (h : 15 < b.toNat) : lineOf b = none := dif_neg (by omega)

/-- The table that a function of the index fills. -/
theorem mapTable_finRange_getElem {α : Type} {n : Nat} (f : Fin n → α) (h : (List.finRange n).toArray.size = n)
    (i : Fin n) : (mapTable f ⟨⟨List.finRange n⟩, h⟩)[i] = f i := by
  rw [Fin.getElem_fin, mapTable_getElem]
  simp

/-- Every type code that SET_TRIGGERS names is a type (R159). -/
def typesFit (q : TriggersRequest) : Prop :=
  ∀ i : Fin 16, q.mask.getLsbD i.val = true → (q.types[i]).toNat ≤ 5

theorem mergeTriggers_of_fits {q : TriggersRequest} (h : typesFit q) (held : Vector TriggerType 16) :
    ∃ types : Vector TriggerType 16, mergeTriggers q held = some types ∧
      ∀ i : Fin 16,
        types[i] = if q.mask.getLsbD i.val then (triggerTypeOf q.types[i]).getD .none else held[i] := by
  have hall : (List.finRange 16).all
      (fun i => !q.mask.getLsbD i.val || (triggerTypeOf q.types[i]).isSome) = true := by
    refine List.all_eq_true.mpr fun i _ => ?_
    by_cases hi : q.mask.getLsbD i.val = true
    · simp only [(triggerTypeOf_isSome_iff _).mpr (h i hi), Bool.or_true]
    · rw [Bool.eq_false_iff.mpr hi]
      rfl
  refine ⟨_, if_pos hall, fun i => ?_⟩
  rw [mapTable_finRange_getElem]
  unfold pick
  split_ifs with hi
  · obtain ⟨type, htype⟩ := Option.isSome_iff_exists.mp ((triggerTypeOf_isSome_iff _).mpr (h i hi))
    rw [htype]
    rfl
  · rfl

theorem mergeTriggers_of_not_fits {q : TriggersRequest} (h : ¬typesFit q) (held : Vector TriggerType 16) :
    mergeTriggers q held = none := by
  refine if_neg fun hall => h fun i hi => ?_
  have hsome := List.all_eq_true.mp hall i (List.mem_finRange i)
  rw [hi] at hsome
  exact (triggerTypeOf_isSome_iff _).mp hsome

/-- A line and a type code in range. -/
def conditionFits (c : Byte × Byte) : Prop := c.1.toNat ≤ 15 ∧ c.2.toNat ≤ 5

theorem conditionOf_of_fits {c : Byte × Byte} (h : conditionFits c) :
    ∃ line type, conditionOf c = some ⟨line, type, false⟩ ∧ line.val = c.1.toNat ∧
      triggerTypeOf c.2 = some type := by
  obtain ⟨line, hline, hval⟩ := lineOf_of_le h.1
  obtain ⟨type, htype⟩ := Option.isSome_iff_exists.mp ((triggerTypeOf_isSome_iff _).mpr h.2)
  exact ⟨line, type, by simp [conditionOf, hline, htype], hval, htype⟩

theorem conditionOf_of_not_fits {c : Byte × Byte} (h : ¬conditionFits c) : conditionOf c = none := by
  unfold conditionOf
  by_cases hline : c.1.toNat ≤ 15
  · have htype : triggerTypeOf c.2 = none := by
      rw [← Option.not_isSome_iff_eq_none, triggerTypeOf_isSome_iff]
      exact fun htype => h ⟨hline, htype⟩
    rw [htype]
    cases lineOf c.1 <;> rfl
  · rw [lineOf_of_gt (by omega)]

/-- Every condition that SET_RESUME names has its line and type in range (R168). -/
def conditionsFit (q : ResumeRequest) : Prop :=
  ∀ i : Fin 4, q.mask.getLsbD i.val = true → conditionFits q.conditions[i]

theorem mergeConditions_of_fits {q : ResumeRequest} (h : conditionsFit q)
    (flag : ResumeCondition → ResumeCondition) (held : Vector ResumeCondition 4) :
    ∃ conditions : Vector ResumeCondition 4, mergeConditions q flag held = some conditions ∧
      ∀ i : Fin 4,
        conditions[i] =
          if q.mask.getLsbD i.val then flag ((conditionOf q.conditions[i]).getD held[i]) else held[i] := by
  have hall : (List.finRange 4).all
      (fun i => !q.mask.getLsbD i.val || (conditionOf q.conditions[i]).isSome) = true := by
    refine List.all_eq_true.mpr fun i _ => ?_
    by_cases hi : q.mask.getLsbD i.val = true
    · obtain ⟨line, type, hcond, -⟩ := conditionOf_of_fits (h i hi)
      rw [hcond, Option.isSome_some, Bool.or_true]
    · rw [Bool.eq_false_iff.mpr hi]
      rfl
  exact ⟨_, if_pos hall, fun i => mapTable_finRange_getElem _ _ i⟩

theorem mergeConditions_of_not_fits {q : ResumeRequest} (h : ¬conditionsFit q)
    (flag : ResumeCondition → ResumeCondition) (held : Vector ResumeCondition 4) :
    mergeConditions q flag held = none := by
  refine if_neg fun hall => h fun i hi => ?_
  by_contra hbad
  have hsome := List.all_eq_true.mp hall i (List.mem_finRange i)
  rw [conditionOf_of_not_fits hbad, hi] at hsome
  cases hsome

/-- The flag that a written condition takes, on any line and of any type (R168, R169). -/
theorem State.writtenFlag_frame (s : State) (c : ResumeCondition) :
    (s.writtenFlag c).line = c.line ∧ (s.writtenFlag c).type = c.type ∧
      (s.writtenFlag c).held =
        (decide (s.ctrl.st = .paused) && (c.snapshot s.cab.previous).held) := by
  unfold writtenFlag
  split_ifs with hst <;> simp [ResumeCondition.snapshot, hst]

end Sys2Proof.Machine

section
open Sys2Proof Sys2Proof.Machine

/-- Settles O44: the codes of each masked element, then the tables the requests leave (R159, R168). -/
theorem triggersAndConditionsAreWritten : Obligations.TriggersAndConditionsAreWritten := by
  unfold Obligations.TriggersAndConditionsAreWritten
  refine ⟨fun dt tag q s hroom => ?_, fun dt tag q s hroom => ?_⟩
  · intro u
    refine ⟨fun ⟨i, hi, hbad⟩ => ?_, fun hfits => ?_⟩
    · have hno : ¬typesFit q := fun h => absurd (h i hi) (by omega)
      have howner : u.ownSetTriggers q = ⟨u, .badValue, .bare⟩ := by
        simp only [State.ownSetTriggers, mergeTriggers_of_not_fits hno]
      exact next_request (kind := 0x0C) hroom howner
    · obtain ⟨types, hmerge, htypes⟩ := mergeTriggers_of_fits hfits u.cab.triggers
      have howner : u.ownSetTriggers q =
          ⟨u.withCab { u.cab with triggers := types }, .ok, .triggers types u.cab.previous⟩ := by
        simp only [State.ownSetTriggers, hmerge]
      exact ⟨types, htypes, next_request (kind := 0x0C) hroom howner⟩
  · intro u bad
    have hbad (i : Fin 4) (hi : q.mask.getLsbD i.val = true) : bad i ↔ ¬conditionFits q.conditions[i] := by
      simp only [bad, hi, conditionFits, true_and, not_and_or, not_le]
    refine ⟨fun h => ?_, fun hmask hgood => ?_⟩
    · have howner : u.ownSetResume q = ⟨u, .badValue, .bare⟩ := by
        by_cases hmask : maskFits q.mask 4 = true
        · have hno : ¬conditionsFit q := fun hfits => by
            obtain hbig | ⟨i, hi⟩ := h
            · rw [maskFits_four_iff] at hmask
              omega
            · exact (hbad i hi.1).mp hi (hfits i hi.1)
          simp [State.ownSetResume, hmask, mergeConditions_of_not_fits hno]
        · simp [State.ownSetResume, hmask]
      exact next_request (kind := 0x0D) hroom howner
    · have hfits : conditionsFit q := fun i hi => by
        by_contra hno
        exact hgood i ((hbad i hi).mpr hno)
      obtain ⟨conditions, hmerge, hconditions⟩ := mergeConditions_of_fits hfits u.writtenFlag u.cab.conditions
      have hmask' := (maskFits_four_iff q.mask).mpr hmask
      have howner : u.ownSetResume q =
          ⟨u.withCab { u.cab with conditions := conditions }, .ok, .conditions conditions⟩ := by
        simp [State.ownSetResume, hmask', hmerge]
      refine ⟨conditions, fun i => ?_, next_request (kind := 0x0D) hroom howner⟩
      rw [hconditions i]
      split_ifs with hi
      · obtain ⟨line, type, hcond, hline, htype⟩ := conditionOf_of_fits (hfits i hi)
        obtain ⟨hwline, hwtype, hwheld⟩ := u.writtenFlag_frame ⟨line, type, false⟩
        rw [hcond, Option.getD_some, hwline, hwtype, hwheld]
        exact ⟨hline, htype.symm, rfl⟩
      · rfl

end

/-! ### What each deed places (R38, R119, R157, R181), and the framer that no deed moves -/

namespace Sys2Proof.Machine

/-- Every slot but that of the stamps. -/
abbrev frameSlots : List Slot := [.frameStart, .state, .clock, .port, .late, .outcomes]

namespace Notes

theorem of_same {xs : List Slot} {s t : State} (hframer : t.link.framer = s.link.framer)
    (htx : t.link.tx = s.link.tx) (hslots : t.link.slots = s.link.slots)
    (hframe : t.link.frameStart = s.link.frameStart) : Notes xs s t := by
  refine ⟨hframer, fun _ => ⟨htx, fun x _ => ?_⟩⟩
  cases x
  case frameStart => exact hframe
  all_goals
    unfold Slot.same
    rw [hslots]

end Notes

namespace State

variable (s : State)

theorem notes_clockFrameStart : Notes [.clock] s s.clockFrameStart :=
  (notes_noteClock (s.withClock s.clock.frameStart) _ _).after rfl

theorem notes_clockCapture : Notes [.clock] s s.clockCapture :=
  (notes_noteClock (s.withClock s.clock.capture) _ _).after rfl

theorem notes_handFrameStart : Notes [.frameStart] s s.handFrameStart := by
  unfold handFrameStart
  split
  · exact .refl _ s
  · exact s.notes_placeFrameStart _

theorem notes_rampStep : Notes [.state, .outcomes] s s.rampStep := by
  have hin (f : Nat) : Notes [.state, .outcomes] s
      (if f = 256 then s.changeHub .live s.ctrl.reason 256 .rampDone
        else s.withCtrl { s.ctrl with f := f }) := by
    split
    · exact (s.notes_changeHub _ _ _ _).mono (by simp)
    · exact .of_link_eq rfl
  have hout (f : Nat) : Notes [.state, .outcomes] s
      (if f = 0 then s.enterPaused .rampDone else s.withCtrl { s.ctrl with f := f }) := by
    split
    · exact s.notes_enterPaused _
    · exact .of_link_eq rfl
  unfold rampStep
  split
  · exact hin _
  · exact hout _
  · exact .refl _ s

theorem notes_clockLost : Notes [.state, .outcomes] s s.clockLost := by
  obtain h | h := s.clockLost_eq
  · rw [h]
    exact s.notes_enterHalted _ _
  · exact .of_link_eq (by rw [h])

theorem notes_controllerFrameStart (expired : Bool) :
    Notes [.state, .outcomes] s (s.controllerFrameStart expired) := by
  unfold controllerFrameStart
  split
  · split
    · exact s.notes_clockLost.trans (notes_rampStep _)
    · exact s.notes_rampStep.trans (notes_clockLost _)
  · exact s.notes_rampStep

theorem notes_recordAndStep (expired : Bool) :
    Notes [.frameStart, .state, .outcomes] s (s.recordAndStep expired) := by
  unfold recordAndStep
  split
  · exact (s.notes_handFrameStart.mono (by simp)).trans
      ((notes_controllerFrameStart _ expired).mono (by simp))
  · exact ((s.notes_controllerFrameStart expired).mono (by simp)).trans
      ((notes_handFrameStart _).mono (by simp))

theorem notes_sourcesFrameStart (renumbering expired : Bool) :
    Notes [.frameStart, .state, .outcomes] s (s.sourcesFrameStart renumbering expired) :=
  (s.notes_recordAndStep expired).trans (.of_link_eq rfl)

theorem notes_schedulerFrameStart (renumbering : Bool) (p : Port) :
    Notes [] s (s.schedulerFrameStart renumbering p) := by
  unfold schedulerFrameStart
  split
  · exact .refl _ s
  · exact .of_link_eq rfl

theorem notes_deliveryFrameStart (renumbering : Bool) :
    Notes [.late, .outcomes] s (s.deliveryFrameStart renumbering) := by
  have hschedulers : Notes [.late, .outcomes] s
      (((s.schedulerFrameStart renumbering .vision).schedulerFrameStart renumbering
        .sound).schedulerFrameStart renumbering .cab) :=
    (((s.notes_schedulerFrameStart renumbering .vision).trans
      (notes_schedulerFrameStart _ renumbering .sound)).trans
        (notes_schedulerFrameStart _ renumbering .cab)).mono (by simp)
  unfold deliveryFrameStart
  refine hschedulers.trans (Notes.trans (t := ite _ _ _) ?_ (notes_finishLines _))
  split
  · exact (notes_mapDests_settle _ _).mono (by simp)
  · exact (notes_mapDests_settle _ _).mono (by simp)

theorem notes_losePort (p : Port) : Notes [.outcomes, .port] s (s.losePort p) := by
  refine Notes.trans ?_ ((notes_notePort _ _ _ _).mono (by simp))
  exact ((notes_mapDests_settle _ _).after rfl).mono (by simp)

theorem notes_portLost (p : Port) : Notes [.state, .outcomes] s (s.portLost p) := by
  obtain h | h := portLost_eq p s
  · rw [h]
    exact s.notes_enterHalted _ _
  · exact .of_link_eq (by rw [h])

theorem notes_echoFrameStart (p : Port) : Notes [.state, .outcomes, .port] s (s.echoFrameStart p) := by
  unfold echoFrameStart
  dsimp only
  split
  · refine Notes.trans ?_ ((notes_portLost _ p).mono (by simp))
    exact ((notes_losePort _ p).after rfl).mono (by simp)
  · exact .of_link_eq rfl

theorem notes_echoesFrameStart : Notes [.state, .outcomes, .port] s s.echoesFrameStart := by
  unfold echoesFrameStart
  generalize s.portOrder = ps
  induction ps generalizing s with
  | nil => exact .refl _ s
  | cons p ps ih => exact (s.notes_echoFrameStart p).trans (ih _)

/-- What the frame start places after the CLOCK notice. -/
theorem notes_afterClock :
    Notes [.frameStart, .state, .port, .late, .outcomes] s.clockFrameStart s.frameStart := by
  have hdelivery (u : State) (r : Bool) :
      Notes [.frameStart, .state, .port, .late, .outcomes] u (u.deliveryFrameStart r) :=
    (u.notes_deliveryFrameStart r).mono (by simp)
  have hsources (u : State) (r e : Bool) :
      Notes [.frameStart, .state, .port, .late, .outcomes] u (u.sourcesFrameStart r e) :=
    (u.notes_sourcesFrameStart r e).mono (by simp)
  have hechoes (u : State) : Notes [.frameStart, .state, .port, .late, .outcomes] u u.echoesFrameStart :=
    u.notes_echoesFrameStart.mono (by simp)
  have hend (u : State) :
      Notes [.frameStart, .state, .port, .late, .outcomes] u (u.finishLines.nextChoice).kick :=
    (u.notes_finishLines.mono (by simp)).trans ((notes_kick _ _).after rfl)
  unfold frameStart
  refine Notes.trans (t := ite _ _ _) ?_ (hend _)
  split
  · exact ((hdelivery _ _).trans (hsources _ _ _)).trans (hechoes _)
  · exact ((hsources _ _ _).trans (hechoes _)).trans (hdelivery _ _)

theorem notes_frameStart : Notes frameSlots s s.frameStart :=
  (s.notes_clockFrameStart.mono (by simp)).trans (s.notes_afterClock.mono (by simp))

theorem notes_refreshEvents (which : Port → Bool) : Notes [.outcomes] s (s.refreshEvents which) :=
  notes_mapDests_settle _ _

theorem notes_relatency (p : Port) : Notes [.outcomes] s (s.relatency p) := by
  unfold relatency
  dsimp only
  split
  · exact .of_link_eq rfl
  · exact (notes_refreshEvents _ _).after rfl

theorem notes_reguard (p : Port) : Notes [.outcomes] s (s.reguard p) :=
  (notes_refreshEvents _ _).after rfl

theorem notes_enterRunning (p : Port) : Notes [] s (s.enterRunning p) := by
  unfold enterRunning
  split
  · exact .of_link_eq rfl
  · exact .refl _ s

theorem notes_enterMotion (cause : StateCause) : Notes [.state] s (s.enterMotion cause) := by
  unfold enterMotion
  split <;> exact s.notes_changeHub _ _ _ _

theorem notes_enterArmed : Notes frameSlots s s.enterArmed := by
  rw [enterArmed_eq]
  exact (s.notes_armed.mono (by simp)).trans ((notes_finishLines _).mono (by simp))

theorem notes_completePacket (p : Port) : Notes [.outcomes] s (s.completePacket p) := by
  unfold completePacket
  dsimp only
  split
  · exact .refl _ s
  · split
    · exact .of_link_eq rfl
    · split
      · exact (notes_mapDests_settle _ _).after rfl
      · exact .of_link_eq rfl
    all_goals exact .of_link_eq rfl

theorem notes_admitEntry (q : PostRequest) (f : Frame) (used : Nat) :
    Notes [.late, .outcomes] s (s.admitEntry q f used) := by
  rw [admitEntry_eq]
  split
  · exact .of_link_eq rfl
  · refine Notes.trans ?_ (notes_finishLines _)
    exact ((notes_settleEntry _ _).after rfl).mono (by simp)

theorem notes_takeEchoReply (p : Port) (arrival : Instant) (number delay turnaround : Word) :
    Notes [.outcomes, .port, .late] s (s.takeEchoReply p arrival number delay turnaround) := by
  unfold takeEchoReply
  dsimp only
  split
  · exact .refl _ s
  · refine Notes.trans (t := finishLines _) ?_ (notes_kick _ _)
    refine Notes.trans ?_ ((notes_finishLines _).mono (by simp))
    refine Notes.trans ?_ ((notes_notePort _ _ _ _).mono (by simp))
    have hrelatency (b : BoardPort) : Notes [.outcomes, .port, .late] s ((s.withPort p b).relatency p) :=
      ((notes_relatency _ p).after rfl).mono (by simp)
    have hrunning (c : Prop) [Decidable c] (u : State) :
        Notes [.outcomes, .port, .late] u (if c then u else u.enterRunning p) := by
      split
      · exact .refl _ u
      · exact (u.notes_enterRunning p).mono (by simp)
    exact (hrelatency _).trans (hrunning _ _)

end State

/-- A deed places notices in some slots and leaves the framer alone. -/
theorem Deed.notes {s t : State} (h : Deed s t) : ∃ xs, Notes xs s t := by
  cases h
  case linkErrors n => exact ⟨[], .of_same rfl rfl rfl rfl⟩
  case overruns n => exact ⟨[], .of_same rfl rfl rfl rfl⟩
  case kick => exact ⟨[], s.notes_kick _⟩
  case placeState n => exact ⟨_, s.notes_placeState n⟩
  case frameStart => exact ⟨_, s.notes_frameStart⟩
  case capture => exact ⟨_, s.notes_clockCapture⟩
  case stamp x e t => exact ⟨_, s.notes_writeStamp x e t⟩
  case enterSetup => exact ⟨_, s.notes_enterSetup⟩
  case enterArmed => exact ⟨_, s.notes_enterArmed⟩
  case go => exact ⟨_, s.notes_enterMotion _⟩
  case resume => exact ⟨_, s.notes_enterMotion _⟩
  case rampOut => exact ⟨_, s.notes_changeHub _ _ _ _⟩
  case pause => exact ⟨_, s.notes_enterPaused _⟩
  case halt => exact ⟨_, s.notes_enterHalted _ _⟩
  case relatency p => exact ⟨_, s.notes_relatency p⟩
  case reguard p => exact ⟨_, s.notes_reguard p⟩
  case finishLines => exact ⟨_, s.notes_finishLines⟩
  case enqueue q f used _ _ _ _ => exact ⟨_, s.notes_admitEntry q f used⟩
  case cancel tag e _ _ => exact ⟨_, (State.notes_settleEntry _ _).after rfl⟩
  case complete p => exact ⟨_, s.notes_completePacket p⟩
  case releaseDest tag p => exact ⟨_, State.notes_mapDests_settle _ _⟩
  case missDest tag p => exact ⟨_, State.notes_mapDests_settle _ _⟩
  case skip p sc _ => exact ⟨_, s.notes_skipOne p sc⟩
  case skipPast p n => exact ⟨_, s.notes_skipPast p n⟩
  case echoReply => exact ⟨_, s.notes_takeEchoReply _ _ _ _ _⟩
  all_goals refine ⟨[], .of_link_eq ?_⟩
  case interrupt p =>
    unfold State.interrupt
    split
    · rfl
    · dsimp only
      repeat' split
      all_goals rfl
  all_goals
    simp [State.endBeat, State.setWait, State.setAbort, State.writeRamps, State.writeRoute, State.countRxError]

theorem Deeds.framer {s t : State} (h : Deeds s t) : t.link.framer = s.link.framer :=
  h.keeps (P := fun u => u.link.framer = s.link.framer)
    (fun _ _ hd hs => hd.notes.choose_spec.framer.trans hs) rfl

theorem State.takeRecord_framer (kind tag : Byte) (p : List Byte) (s : State) :
    (s.takeRecord kind tag p).link.framer = s.link.framer := by
  unfold State.takeRecord
  split
  · split
    · exact (Deed.samples _ _ _).once.framer
    · rfl
  · split
    · split
      · exact (State.edgeFrom_deeds _ s).framer
      · rfl
    · unfold answer
      split
      · rfl
      · refine (State.notes_pushReply _ [] _).framer.trans ?_
        exact (State.judgeRequest_deeds kind p s).framer

end Sys2Proof.Machine

/-! ### The framer and its rescans (R173 to R176) -/

namespace Sys2Proof.Machine

/-- Bytes received without framing error. -/
def clean (bytes : List Byte) : List RxByte := bytes.map fun b => ⟨b, false⟩

/-- No byte that HUNT would take as the start of a candidate. -/
def noSync (bytes : List RxByte) : Prop := ∀ x ∈ bytes, x.data ≠ 0xC3 ∨ x.framingError = true

@[simp] theorem length_clean (xs : List Byte) : (clean xs).length = xs.length := List.length_map _

@[simp] theorem data_clean (xs : List Byte) : (clean xs).map (·.data) = xs := by
  simp [clean, Function.comp_def]

/-! #### A candidate, by the bytes after its sync byte -/

/-- The framer state in which a candidate with these bytes after its sync byte waits for the next one (R173). -/
def stageOf (xs : List Byte) : FramerState :=
  match xs with
  | [] => .len
  | [_] => .kind
  | [_, _] => .tag
  | len :: _ =>
    if xs.length < len.toNat + 3 then .payload
    else if xs.length = len.toNat + 3 then .crcHigh
    else .crcLow

theorem stageOf_ne_hunt (xs : List Byte) : stageOf xs ≠ .hunt := by
  unfold stageOf
  split
  · simp
  · simp
  · simp
  · split
    · simp
    · split <;> simp

/-- The bytes after the sync byte that no candidate has completed or failed with. -/
def incomplete (xs : List Byte) : Prop :=
  ∀ len, xs.head? = some len → len.toNat ≤ 250 ∧ xs.length < len.toNat + 5

theorem incomplete_nil : incomplete [] := by simp [incomplete]

theorem incomplete_of_append {xs ys : List Byte} (h : incomplete (xs ++ ys)) : incomplete xs := by
  intro len hlen
  have hfull := h len (by simp [List.head?_append, hlen])
  rw [List.length_append] at hfull
  omega

namespace Framer

/-- The framer with a candidate of these bytes open. -/
def opened (xs : List Byte) (fr : Framer) : Framer :=
  { fr with st := stageOf xs, buffer := ⟨0xC3, false⟩ :: clean xs }

variable {fr : Framer}

@[simp] theorem hunt_opened (xs : List Byte) (fr : Framer) : (fr.opened xs).hunt = fr.hunt := rfl

@[simp] theorem hunt_hunt (fr : Framer) : fr.hunt.hunt = fr.hunt := rfl

/-- Outside HUNT a framing error makes the candidate fail (R175). -/
theorem step_of_framingError {b : RxByte} (hst : fr.st ≠ .hunt) (h : b.framingError = true) :
    fr.step b = .fail (fr.buffer ++ [b]) := by
  unfold step
  split
  · next hhunt => exact absurd hhunt hst
  · exact if_pos h

theorem step_of_hunt_noSync {b : RxByte} (hst : fr.st = .hunt) (h : b.data ≠ 0xC3 ∨ b.framingError = true) :
    fr.step b = .keep fr := by
  unfold step
  rw [hst]
  refine if_neg fun ⟨hdata, herror⟩ => ?_
  simp [hdata, herror] at h

theorem step_of_hunt_sync (hst : fr.st = .hunt) : fr.step ⟨0xC3, false⟩ = .keep (fr.opened []) := by
  unfold step
  rw [hst]
  rfl

section
variable {b : RxByte} (herror : b.framingError = false)
include herror

theorem step_of_len (hst : fr.st = .len) :
    fr.step b = if b.data.toNat ≤ 250 then .keep (fr.store b .kind) else .fail (fr.buffer ++ [b]) := by
  unfold step
  rw [hst]
  simp [herror]

theorem step_of_kind (hst : fr.st = .kind) : fr.step b = .keep (fr.store b .tag) := by
  unfold step
  rw [hst]
  simp [herror]

theorem step_of_tag (hst : fr.st = .tag) :
    fr.step b = .keep (fr.store b (if 0 < fr.len then .payload else .crcHigh)) := by
  unfold step
  rw [hst]
  simp [herror]

theorem step_of_payload (hst : fr.st = .payload) :
    fr.step b =
      .keep (fr.store b (if fr.len + 4 ≤ fr.buffer.length + 1 then .crcHigh else .payload)) := by
  unfold step
  rw [hst]
  simp [herror]

theorem step_of_crcHigh (hst : fr.st = .crcHigh) : fr.step b = .keep (fr.store b .crcLow) := by
  unfold step
  rw [hst]
  simp [herror]

theorem step_of_crcLow (hst : fr.st = .crcLow) :
    fr.step b = .complete ((fr.buffer ++ [b]).map (·.data)) := by
  unfold step
  rw [hst]
  simp [herror]

end

theorem store_opened {xs : List Byte} {x : Byte} {st : FramerState} (h : st = stageOf (xs ++ [x])) :
    (fr.opened xs).store ⟨x, false⟩ st = fr.opened (xs ++ [x]) := by
  simp [store, opened, h, clean]

theorem len_opened (len : Byte) (xs : List Byte) : (fr.opened (len :: xs)).len = len.toNat := rfl

/-- A byte that leaves the candidate incomplete is stored (R173). -/
theorem step_opened {xs : List Byte} {x : Byte} (h : incomplete (xs ++ [x])) :
    (fr.opened xs).step ⟨x, false⟩ = .keep (fr.opened (xs ++ [x])) := by
  match xs, h with
  | [], h =>
    obtain ⟨hlen, -⟩ := h x rfl
    rw [step_of_len rfl rfl, if_pos hlen, store_opened (st := .kind) rfl]
  | [_], _ => rw [step_of_kind rfl rfl, store_opened (st := .tag) rfl]
  | [len, _], _ =>
    rw [step_of_tag rfl rfl, store_opened]
    rw [len_opened]
    simp only [stageOf, List.cons_append, List.nil_append, List.length_cons, List.length_nil]
    by_cases hpos : 0 < len.toNat
    · simp [hpos]
    · simp [Nat.eq_zero_of_not_pos hpos]
  | len :: kind :: tag :: rest, h =>
    obtain ⟨-, hlength⟩ := h len rfl
    simp only [List.length_append, List.length_cons, List.length_nil] at hlength
    have hstage (st : FramerState) (hst : stageOf (len :: kind :: tag :: rest) = st) :
        (fr.opened (len :: kind :: tag :: rest)).st = st := hst
    have hbuffer : (fr.opened (len :: kind :: tag :: rest)).buffer.length = rest.length + 4 := by
      simp [opened]
    by_cases hpayload : rest.length + 3 < len.toNat + 3
    · rw [step_of_payload rfl (hstage .payload (by simp [stageOf, hpayload])), store_opened]
      rw [len_opened, hbuffer]
      simp only [stageOf, List.cons_append, List.length_cons, List.length_append, List.length_nil]
      by_cases hlast : len.toNat = rest.length + 1
      · rw [if_pos (by omega), if_neg (by omega), if_pos (by omega)]
      · rw [if_neg (by omega), if_pos (by omega)]
    · have hhigh : rest.length = len.toNat := by omega
      rw [step_of_crcHigh rfl (hstage .crcHigh (by simp [stageOf, hhigh])), store_opened]
      simp [stageOf, hhigh]

end Framer

/-! #### A whole record -/

/-- The bytes of a record between its sync byte and its last byte. -/
def recordBody (kind tag : Byte) (payload : List Byte) : List Byte :=
  BitVec.ofNat 8 payload.length :: kind :: tag ::
    (payload ++ [(crc (BitVec.ofNat 8 payload.length :: kind :: tag :: payload)).extractLsb' 8 8])

/-- The last byte of a record. -/
def recordEnd (kind tag : Byte) (payload : List Byte) : Byte :=
  (crc (BitVec.ofNat 8 payload.length :: kind :: tag :: payload)).extractLsb' 0 8

theorem envelope_eq (kind tag : Byte) (payload : List Byte) :
    envelope kind tag payload = 0xC3 :: (recordBody kind tag payload ++ [recordEnd kind tag payload]) := by
  simp [envelope, recordBody, recordEnd]

theorem length_envelope (kind tag : Byte) (payload : List Byte) :
    (envelope kind tag payload).length = payload.length + 6 := by
  simp [envelope]

theorem length_recordBody (kind tag : Byte) (payload : List Byte) :
    (recordBody kind tag payload).length = payload.length + 4 := by
  simp [recordBody]

section
variable {payload : List Byte} (hlen : payload.length ≤ 250) (kind tag : Byte)
include hlen

theorem toNat_lengthByte : (BitVec.ofNat 8 payload.length).toNat = payload.length := by
  rw [BitVec.toNat_ofNat]
  exact Nat.mod_eq_of_lt (by omega)

theorem incomplete_recordBody : incomplete (recordBody kind tag payload) := by
  intro len hhead
  obtain rfl : BitVec.ofNat 8 payload.length = len := by simpa [recordBody] using hhead
  rw [toNat_lengthByte hlen, length_recordBody]
  omega

theorem stageOf_recordBody : stageOf (recordBody kind tag payload) = .crcLow := by
  simp [stageOf, recordBody, toNat_lengthByte hlen]

end

/-- The record of an envelope passes the check as what it is (R174). -/
theorem goodRecord_envelope (kind tag : Byte) (payload : List Byte) :
    goodRecord (envelope kind tag payload) = some (kind, tag, payload) := by
  simp [goodRecord, envelope]

/-- Bytes that pass the check with a LEN byte of their length are an envelope, but for the sync byte. -/
theorem eq_envelope_of_goodRecord {sync len : Byte} {rest : List Byte} {kind tag : Byte} {payload : List Byte}
    (hlength : rest.length = len.toNat + 4)
    (h : goodRecord (sync :: len :: rest) = some (kind, tag, payload)) :
    sync :: len :: rest = sync :: (envelope kind tag payload).drop 1 := by
  match rest, h with
  | [], h => simp at hlength
  | [_], h => simp at hlength
  | kind' :: tag' :: rest, h =>
    unfold goodRecord at h
    dsimp only at h
    split_ifs at h with hsum
    obtain ⟨rfl, rfl, hpayload⟩ : kind' = kind ∧ tag' = tag ∧ rest.dropLast.dropLast = payload := by
      simpa using h
    rw [hpayload] at hsum
    have hprefix : rest.take payload.length = payload := by
      rw [← hpayload, List.dropLast_eq_take, List.dropLast_eq_take, List.take_take]
      simp
    have hrest : rest = payload ++ rest.drop payload.length := by
      conv_lhs => rw [← List.take_append_drop payload.length rest, hprefix]
    have hsize : payload.length = len.toNat := by
      have := congrArg List.length hsum
      simp only [List.length_drop, List.length_cons, List.length_nil] at this hlength
      omega
    have hbyte : BitVec.ofNat 8 payload.length = len := by rw [hsize, BitVec.ofNat_toNat, BitVec.setWidth_eq]
    rw [hsum] at hrest
    rw [hrest]
    simp [envelope, hbyte]

/-! #### Bytes fed to the framer -/

namespace State

variable {s : State}

theorem withFramer_self (s : State) : s.withFramer s.link.framer = s := rfl

theorem feed_nil (n : Nat) (s : State) : feed n [] s = s := by cases n <;> rfl

theorem feed_of_keep {n : Nat} {b : RxByte} {fr : Framer} (rest : List RxByte) (h : s.link.framer.step b = .keep fr) :
    feed (n + 1) (b :: rest) s = feed n rest (s.withFramer fr) := by
  simp only [feed, h]

theorem feed_of_fail {n : Nat} {b : RxByte} {bytes : List RxByte} (rest : List RxByte)
    (h : s.link.framer.step b = .fail bytes) :
    feed (n + 1) (b :: rest) s =
      feed n (bytes.drop 1 ++ rest) (s.withFramer s.link.framer.hunt).countLinkError := by
  simp only [feed, h]

theorem feed_of_good {n : Nat} {b : RxByte} {bytes : List Byte} {kind tag : Byte} {payload : List Byte}
    (rest : List RxByte) (h : s.link.framer.step b = .complete bytes)
    (hgood : goodRecord bytes = some (kind, tag, payload)) :
    feed (n + 1) (b :: rest) s =
      feed n rest ((s.withFramer s.link.framer.hunt).takeRecord kind tag payload) := by
  simp only [feed, h, hgood]

theorem feed_of_bad {n : Nat} {b : RxByte} {bytes : List Byte} (rest : List RxByte)
    (h : s.link.framer.step b = .complete bytes) (hbad : goodRecord bytes = none) :
    feed (n + 1) (b :: rest) s =
      feed n ((s.link.framer.buffer ++ [b]).drop 1 ++ rest)
        (s.withFramer s.link.framer.hunt).countLinkError := by
  simp only [feed, h, hbad]

/-- HUNT passes over bytes that start no candidate (R173). -/
theorem feed_noSync_append {before : List RxByte} (hst : s.link.framer.st = .hunt) (h : noSync before) (n : Nat)
    (rest : List RxByte) : feed (n + before.length) (before ++ rest) s = feed n rest s := by
  induction before with
  | nil => rfl
  | cons b before ih =>
    obtain ⟨hb, hbefore⟩ := List.forall_mem_cons.mp h
    rw [List.length_cons, ← Nat.add_assoc, List.cons_append,
      feed_of_keep _ (Framer.step_of_hunt_noSync hst hb), withFramer_self]
    exact ih hbefore

theorem feed_noSync {bytes : List RxByte} (hst : s.link.framer.st = .hunt) (h : noSync bytes) (n : Nat) :
    feed n bytes s = s := by
  induction bytes generalizing n with
  | nil => exact feed_nil n s
  | cons b bytes ih =>
    obtain ⟨hb, hbytes⟩ := List.forall_mem_cons.mp h
    cases n with
    | zero => rfl
    | succ n =>
      rw [feed_of_keep _ (Framer.step_of_hunt_noSync hst hb), withFramer_self]
      exact ih hbytes n

/-- Bytes that leave the candidate incomplete are stored in their order. -/
theorem feed_opened {xs ys : List Byte} (h : incomplete (xs ++ ys)) (n : Nat) (rest : List RxByte) (fr : Framer)
    (s : State) :
    feed (n + ys.length) (clean ys ++ rest) (s.withFramer (fr.opened xs)) =
      feed n rest (s.withFramer (fr.opened (xs ++ ys))) := by
  induction ys generalizing xs with
  | nil => simp [clean]
  | cons y ys ih =>
    have happend : xs ++ y :: ys = (xs ++ [y]) ++ ys := by simp
    rw [happend] at h ⊢
    rw [List.length_cons, ← Nat.add_assoc]
    refine (feed_of_keep _ (Framer.step_opened (incomplete_of_append h))).trans ?_
    exact ih h

/-- A sync byte and bytes that leave its candidate incomplete. -/
theorem feed_sync {ys : List Byte} (hst : s.link.framer.st = .hunt) (h : incomplete ys) (n : Nat)
    (rest : List RxByte) :
    feed (n + (ys.length + 1)) (⟨0xC3, false⟩ :: (clean ys ++ rest)) s =
      feed n rest (s.withFramer (s.link.framer.opened ys)) := by
  rw [← Nat.add_assoc, feed_of_keep _ (Framer.step_of_hunt_sync hst)]
  exact feed_opened (xs := []) h n rest _ s

/-- A whole record fed from HUNT is taken, once (R173, R178). -/
theorem feed_envelope {payload : List Byte} (hst : s.link.framer.st = .hunt) (hlen : payload.length ≤ 250)
    (kind tag : Byte) (n : Nat) (rest : List RxByte) :
    feed (n + (payload.length + 6)) (clean (envelope kind tag payload) ++ rest) s =
      feed n rest ((s.withFramer s.link.framer.hunt).takeRecord kind tag payload) := by
  have hbytes : clean (envelope kind tag payload) ++ rest =
      ⟨0xC3, false⟩ :: (clean (recordBody kind tag payload) ++ ⟨recordEnd kind tag payload, false⟩ :: rest) := by
    rw [envelope_eq]
    simp [clean]
  have hfuel : n + (payload.length + 6) = n + 1 + ((recordBody kind tag payload).length + 1) := by
    rw [length_recordBody]
    omega
  rw [hbytes, hfuel, feed_sync hst (incomplete_recordBody hlen kind tag)]
  have hstep : (s.link.framer.opened (recordBody kind tag payload)).step ⟨recordEnd kind tag payload, false⟩ =
      .complete (envelope kind tag payload) := by
    rw [Framer.step_of_crcLow rfl (stageOf_recordBody hlen kind tag), envelope_eq]
    simp [Framer.opened]
  exact feed_of_good rest hstep (goodRecord_envelope kind tag payload)

end State
end Sys2Proof.Machine

section
open Sys2Proof Sys2Proof.Machine

/-- Settles O4: a record's bytes store up to its last one, which completes it; what the hub sends is an
envelope. -/
theorem envelopeIsReceivedWhole : Obligations.EnvelopeIsReceivedWhole := by
  unfold Obligations.EnvelopeIsReceivedWhole
  refine ⟨fun kind tag payload s n hlen hst hn => ?_, fun r => goodRecord_envelope _ _ _,
    fun n merge items => goodRecord_envelope _ _ _, fun r items => goodRecord_envelope _ _ _⟩
  obtain ⟨m, rfl⟩ : ∃ m, n = m + (payload.length + 6) := ⟨n - (payload.length + 6), by omega⟩
  have hfeed := State.feed_envelope hst hlen kind tag m []
  rw [List.append_nil, State.feed_nil] at hfeed
  exact hfeed

end

/-! #### Bytes from the line, and the gap -/

namespace Sys2Proof.Machine
namespace State

variable {s : State}

@[simp] theorem kick_linkErrors (s : State) : s.kick.link.linkErrors = s.link.linkErrors := by
  unfold kick Link.kick
  split
  · simp
  · rfl

@[simp] theorem kick_framer (s : State) : s.kick.link.framer = s.link.framer := Link.kick_framer _ _

/-- A state that differs by its link alone does so after the transmitter's decision. -/
theorem kick_eq_withLink {u v : State} (h : v = u.withLink v.link) : v.kick = u.withLink v.kick.link := by
  rw [h]
  rfl

theorem byteFromLine_of_running (h : s.inReset = false) (dt : Nat) (b : RxByte) :
    s.byteFromLine dt b = ((s.elapseByte dt).receiveByte b).kick := by
  simp [byteFromLine, h]

/-- The framer as a byte finds it: the time of the last byte is now, and no start bit is under way. -/
def heard (s : State) : Framer := { s.link.framer with lastAt := s.now, startBit := false }

theorem receiveByte_eq (b : RxByte) (s : State) :
    s.receiveByte b = feed (feedFuel (s.link.framer.buffer.length + 1)) [b] (s.withFramer s.heard) := rfl

theorem feedFuel_succ (n : Nat) : ∃ m, feedFuel (n + 1) = m + 1 ∧ n + 1 ≤ m := by
  have hsquare : n + 1 + 1 ≤ (n + 1 + 1) * (n + 1 + 1) := Nat.le_mul_self _
  exact ⟨(n + 1 + 1) * (n + 1 + 1) - 1, by unfold feedFuel; omega, by omega⟩

/-- A byte that keeps the candidate leaves the framer so, and nothing else. -/
theorem receiveByte_of_keep {b : RxByte} {fr : Framer} (h : s.heard.step b = .keep fr) :
    s.receiveByte b = s.withFramer fr := by
  obtain ⟨m, hm, -⟩ := feedFuel_succ s.link.framer.buffer.length
  rw [receiveByte_eq, hm, feed_of_keep [] h, feed_nil]
  rfl

theorem receiveByte_of_good {b : RxByte} {kind tag : Byte} {payload : List Byte}
    (h : s.heard.step b = .complete (envelope kind tag payload)) :
    s.receiveByte b = (s.withFramer s.heard.hunt).takeRecord kind tag payload := by
  obtain ⟨m, hm, -⟩ := feedFuel_succ s.link.framer.buffer.length
  rw [receiveByte_eq, hm, feed_of_good [] h (goodRecord_envelope kind tag payload), feed_nil]
  rfl

/-- The candidate has failed and is counted: the framer is in HUNT (R175). -/
def rescanned (s : State) (fr : Framer) : State := (s.withFramer fr).countLinkError

@[simp] theorem rescanned_framer (s : State) (fr : Framer) : (s.rescanned fr).link.framer = fr := rfl

/-- Whether a byte makes the open candidate fail (R175). -/
def failsOn (b : RxByte) (fr : Framer) : Prop :=
  fr.step b = .fail (fr.buffer ++ [b]) ∨
    ∃ bytes, fr.step b = .complete bytes ∧ goodRecord bytes = none

/-- The bytes of a failed candidate after its sync byte, the one that fails included, are taken again (R175). -/
theorem receiveByte_of_fails {b : RxByte} (h : failsOn b s.heard) :
    ∃ m, s.link.framer.buffer.length ≤ m ∧
      s.receiveByte b = feed m ((s.link.framer.buffer ++ [b]).drop 1) (s.rescanned s.heard.hunt) := by
  obtain ⟨m, hm, hle⟩ := feedFuel_succ s.link.framer.buffer.length
  refine ⟨m, by omega, ?_⟩
  rw [receiveByte_eq, hm]
  obtain hfail | ⟨bytes, hbytes, hbad⟩ := h
  · exact (feed_of_fail [] hfail).trans (by rw [List.append_nil]; rfl)
  · exact (feed_of_bad [] hbytes hbad).trans (by rw [List.append_nil]; rfl)

/-- Rescanned bytes with one whole record among them. -/
theorem feed_record_among {bytes before after : List RxByte} {kind tag : Byte} {payload : List Byte} {n : Nat}
    (hst : s.link.framer.st = .hunt) (hself : s.link.framer.hunt = s.link.framer)
    (hbytes : bytes = before ++ clean (envelope kind tag payload) ++ after) (hbefore : noSync before)
    (hafter : noSync after) (hlen : payload.length ≤ 250) (hn : bytes.length ≤ n) :
    feed n bytes s = s.takeRecord kind tag payload := by
  have hlength : bytes.length = before.length + (payload.length + 6) + after.length := by
    rw [hbytes, List.length_append, List.length_append, length_clean, length_envelope]
  obtain ⟨m, rfl⟩ : ∃ m, n = m + (payload.length + 6) + before.length :=
    ⟨n - (payload.length + 6) - before.length, by omega⟩
  have htaken : (s.withFramer s.link.framer.hunt).takeRecord kind tag payload = s.takeRecord kind tag payload := by
    rw [hself, withFramer_self]
  rw [hbytes, List.append_assoc, feed_noSync_append hst hbefore, feed_envelope hst hlen, htaken,
    feed_noSync (by rw [takeRecord_framer]; exact hst) hafter]

/-! #### The gap -/

theorem closeGap_of_hunt (h : s.link.framer.st = .hunt) (hself : s.link.framer.hunt = s.link.framer) (n : Nat) :
    closeGap n s = s := by
  cases n with
  | zero => exact (congrArg s.withFramer hself).trans (withFramer_self s)
  | succ n => exact if_pos h

theorem closeGap_of_open (h : s.link.framer.st ≠ .hunt) (n : Nat) :
    closeGap (n + 1) s =
      closeGap n
        (feed (feedFuel (s.link.framer.buffer.drop 1).length) (s.link.framer.buffer.drop 1)
          (s.rescanned s.link.framer.hunt)) := if_neg h

theorem closeGap_st (n : Nat) (s : State) : (closeGap n s).link.framer.st = .hunt := by
  induction n generalizing s with
  | zero => rfl
  | succ n ih =>
    by_cases h : s.link.framer.st = .hunt
    · rw [closeGap, if_pos h]
      exact h
    · rw [closeGap_of_open h]
      exact ih _

theorem le_feedFuel (n : Nat) : n ≤ feedFuel n := by
  unfold feedFuel
  nlinarith

theorem instantOf_gap_isSome_iff :
    (s.instantOf .gap).isSome = true ↔ s.link.framer.st ≠ .hunt ∧ s.link.framer.startBit = false := by
  unfold instantOf
  dsimp only
  split_ifs with h <;> simp [h]

end State
end Sys2Proof.Machine

section
open Sys2Proof Sys2Proof.Machine

/-- Settles O48: a byte by its state, a failed candidate by what its rescan meets, and the gap (R173 to R176). -/
theorem bytesAndGapsMoveTheFramer : Obligations.BytesAndGapsMoveTheFramer := by
  unfold Obligations.BytesAndGapsMoveTheFramer
  intro noSync' clean'
  refine ⟨fun dt data framingError s hreset => ?_, fun s at_ hcomes => ?_, fun s h => ?_⟩
  · intro u fr now b stored hunting moves whole fails
    have hexec : exec (.byteReceived dt data framingError) s = .next (u.receiveByte b).kick :=
      congrArg Host.Outcome.next (State.byteFromLine_of_running hreset dt b)
    have hexec' : exec (.candidateFails dt data framingError) s = .next (u.receiveByte b).kick :=
      congrArg Host.Outcome.next (State.byteFromLine_of_running hreset dt b)
    clear_value u
    have hkeep {fr' : Framer} (h : u.heard.step b = .keep fr') : moves fr' := by
      refine ⟨_, hexec, ?_⟩
      rw [State.receiveByte_of_keep h]
      exact ⟨State.kick_eq_withLink rfl, State.kick_framer _, State.kick_linkErrors _, State.kick_replies _⟩
    refine ⟨fun hst h => ?_, fun hst hdata herror => ?_, fun hst herror hdata => ?_, fun hst herror => ?_,
      fun sync len rest hst herror hbuffer => ?_, fun sync len rest hst herror hbuffer hless => ?_,
      fun hst herror => ?_, fun kind tag payload hst herror hwhole => ?_, fun hfails c hc => ?_⟩
    · exact hkeep (Framer.step_of_hunt_noSync hst h)
    · subst hdata herror
      exact hkeep (Framer.step_of_hunt_sync hst)
    · exact hkeep ((Framer.step_of_len (b := b) (fr := u.heard) herror hst).trans (if_pos hdata))
    · exact hkeep (Framer.step_of_kind herror hst)
    · have hlen : u.heard.len = len.data.toNat := by
        change (fr.buffer.getD 1 ⟨0, false⟩).data.toNat = _
        rw [hbuffer]
        rfl
      have hstep := Framer.step_of_tag (b := b) herror (fr := u.heard) hst
      rw [hlen] at hstep
      exact hkeep hstep
    · have hlen : u.heard.len = len.data.toNat := by
        change (fr.buffer.getD 1 ⟨0, false⟩).data.toNat = _
        rw [hbuffer]
        rfl
      have hiff : len.data.toNat + 4 ≤ u.heard.buffer.length + 1 ↔ fr.buffer.length + 1 = len.data.toNat + 4 := by
        change len.data.toNat + 4 ≤ fr.buffer.length + 1 ↔ _
        omega
      have hstep := Framer.step_of_payload (b := b) herror (fr := u.heard) hst
      simp only [hlen, hiff] at hstep
      exact hkeep hstep
    · exact hkeep (Framer.step_of_crcHigh herror hst)
    · obtain ⟨hlen, hbytes⟩ := hwhole
      have hstep : u.heard.step b = .complete (envelope kind tag payload) := by
        rw [Framer.step_of_crcLow (b := b) (fr := u.heard) herror hst, ← hbytes]
        rfl
      rw [hexec, State.receiveByte_of_good hstep]
      rfl
    · intro again counted
      obtain ⟨hst, hcause⟩ := hfails
      have hfail : State.failsOn b u.heard := by
        obtain herror | hcause := hcause
        · exact .inl (Framer.step_of_framingError hst herror)
        by_cases herror : framingError = true
        · exact .inl (Framer.step_of_framingError hst herror)
        have herror' : b.framingError = false := by simpa using herror
        obtain ⟨hlen, hdata⟩ | ⟨hlow, sync, len, rest, hbuffer, hlength, hno⟩ := hcause
        · have hbig : ¬data.toNat ≤ 250 := by omega
          exact .inl ((Framer.step_of_len (fr := u.heard) herror' hlen).trans (if_neg hbig))
        · refine .inr ⟨_, Framer.step_of_crcLow herror' hlow, ?_⟩
          change goodRecord ((fr.buffer ++ [b]).map (·.data)) = none
          by_contra hgood
          obtain ⟨⟨kind, tag, payload⟩, hrecord⟩ := Option.ne_none_iff_exists'.mp hgood
          refine hno kind tag payload ?_
          rw [hbuffer] at hrecord hlength ⊢
          refine eq_envelope_of_goodRecord ?_ hrecord
          simp only [List.length_cons] at hlength
          simp
          omega
      obtain ⟨m, hm, hagain⟩ := State.receiveByte_of_fails hfail
      have hc' : exec c s = .next (State.feed m again counted).kick := by
        obtain rfl | rfl : c = .byteReceived dt data framingError ∨ c = .candidateFails dt data framingError := by
          simpa using hc
        · rw [hexec, hagain]
          rfl
        · rw [hexec', hagain]
          rfl
      have hlength : again.length ≤ m := by
        simp only [again, List.length_drop, List.length_append, List.length_cons, List.length_nil]
        exact hm
      refine ⟨fun hno => ?_, fun before after kind tag payload hbytes hbefore hafter hlen => ?_,
        fun before hbytes hbefore => ?_⟩
      · refine ⟨_, hc', ?_⟩
        rw [State.feed_noSync rfl hno]
        exact ⟨State.kick_eq_withLink rfl, State.kick_framer _, State.kick_linkErrors _⟩
      · rw [hc', State.feed_record_among rfl rfl hbytes hbefore hafter hlen hlength]
      · have hsync : State.feed m again counted = counted.withFramer (hunting.opened []) := by
          obtain ⟨n, rfl⟩ : ∃ n, m = n + 1 + before.length := ⟨m - 1 - before.length, by
            rw [hbytes] at hlength
            simp at hlength
            omega⟩
          rw [hbytes, State.feed_noSync_append rfl hbefore]
          have hfed := State.feed_sync (s := counted) (ys := []) rfl incomplete_nil n []
          rw [State.feed_nil] at hfed
          exact hfed
        refine ⟨_, hc', ?_⟩
        rw [hsync]
        exact ⟨State.kick_eq_withLink rfl, State.kick_framer _, State.kick_linkErrors _⟩
  · intro fr again u hunting
    have hopen : s.link.framer.st ≠ .hunt :=
      (State.instantOf_gap_isSome_iff.mp (by rw [hcomes.2.1]; rfl)).1
    have hexec : exec .gap s = .next (u.closeGap (fr.buffer.length + 1)).kick :=
      congrArg Host.Outcome.next (State.ownRow_of_comes hcomes)
    have hround : u.closeGap (fr.buffer.length + 1) =
        State.closeGap fr.buffer.length (State.feed (State.feedFuel again.length) again (u.rescanned hunting)) :=
      State.closeGap_of_open (s := u) hopen fr.buffer.length
    refine ⟨_, hexec, by simpa [State.kick] using State.closeGap_st _ u, fun hno => ?_,
      fun before after kind tag payload hbytes hbefore hafter hlen => ?_,
      fun before after hbytes hbefore hafter hincomplete => ?_⟩
    · rw [hround, State.feed_noSync rfl hno, State.closeGap_of_hunt rfl rfl]
      exact ⟨State.kick_eq_withLink rfl, State.kick_framer _, State.kick_linkErrors _⟩
    · rw [hround, State.feed_record_among rfl rfl hbytes hbefore hafter hlen (State.le_feedFuel _),
        State.closeGap_of_hunt (by rw [State.takeRecord_framer]; rfl) (by rw [State.takeRecord_framer]; rfl)]
      rfl
    · have hopened : State.feed (State.feedFuel again.length) again (u.rescanned hunting) =
          (u.rescanned hunting).withFramer (hunting.opened after) := by
        have hlength : again.length = after.length + 1 + before.length := by
          rw [hbytes]
          simp [clean']
          omega
        have hle := State.le_feedFuel again.length
        obtain ⟨m, hm⟩ : ∃ m, State.feedFuel again.length = m + (after.length + 1) + before.length :=
          ⟨State.feedFuel again.length - (after.length + 1) - before.length, by omega⟩
        rw [hm, hbytes, State.feed_noSync_append rfl hbefore]
        have hsync := State.feed_sync (s := u.rescanned hunting) rfl hincomplete m []
        rw [List.append_nil, State.feed_nil] at hsync
        exact hsync
      obtain ⟨k, hk⟩ : ∃ k, fr.buffer.length = k + 1 := by
        have hlength := congrArg List.length hbytes
        simp only [again, List.length_drop, List.length_append, List.length_cons] at hlength
        exact ⟨fr.buffer.length - 1, by omega⟩
      generalize hv : (u.rescanned hunting).withFramer (hunting.opened after) = v at hopened
      have hst : v.link.framer.st ≠ .hunt := by
        rw [← hv]
        exact stageOf_ne_hunt after
      have hfed : State.feed (State.feedFuel (v.link.framer.buffer.drop 1).length) (v.link.framer.buffer.drop 1)
          (v.rescanned v.link.framer.hunt) = v.rescanned v.link.framer.hunt := by
        refine State.feed_noSync rfl ?_ _
        rw [← hv]
        exact hafter
      rw [hround, hopened, hk, State.closeGap_of_open hst, hfed, State.closeGap_of_hunt rfl rfl, ← hv]
      refine ⟨State.kick_eq_withLink rfl, State.kick_framer _, ?_⟩
      simp only [State.kick_linkErrors]
      change countUp 65535 1 (countUp 65535 1 s.link.linkErrors) = _
      unfold countUp
      omega
  · have hnone : s.instantOf .gap = none := by
      rw [← Option.not_isSome_iff_eq_none, State.instantOf_gap_isSome_iff]
      rintro ⟨hst, hbit⟩
      obtain h | h := h
      · exact hst h
      · rw [hbit] at h
        cases h
    exact congrArg Host.Outcome.next (State.ownRow_of_none hnone)

end

/-! ### The transmitter (R172, R179, R183) -/

namespace Sys2Proof.Machine

namespace Link

variable {l : Link} {now : Instant}

theorem arbitrate_of_frameStart {r : FrameStartRecord} (h : l.frameStart = some r) :
    l.arbitrate now = { l with frameStart := none, tx := .frameStart r, txStart := now } := by
  simp [arbitrate, h]

theorem arbitrate_of_reply (h : l.frameStart = none) (hr : l.replies ≠ []) :
    l.arbitrate now = { l with tx := .reply, txStart := now } := by
  simp [arbitrate, h, hr]

theorem arbitrate_of_notice {n : Notice} {merge : Nat} {slots : NoticeSlots} (h : l.frameStart = none)
    (hr : l.replies = []) (hn : l.slots.take = some (n, merge, slots)) :
    l.arbitrate now = { l with slots := slots, tx := .notice n merge, txStart := now } := by
  simp [arbitrate, h, hr, hn]

theorem arbitrate_of_nothing (h : l.frameStart = none) (hr : l.replies = []) (hn : l.slots.take = none) :
    l.arbitrate now = { l with tx := .idle } := by
  simp [arbitrate, h, hr, hn]

end Link

namespace State

variable {s : State}

/-- The replies that are left when the record on the line has been sent (R179). -/
def repliesLeft (s : State) : List Reply :=
  if s.link.tx = .reply then s.link.replies.drop 1 else s.link.replies

/-- The link from which the next record is chosen. -/
def linkAfter (s : State) : Link := { s.link with replies := s.repliesLeft }

/-- A record whose length is given ends by its own event. -/
theorem recordSent_of_comes {t : Instant} (h : s.comes .recordSent t) (dt : Nat) :
    exec (.recordSent dt) s = .next (s.atInstant t).sentRecord := by
  have hlength : s.link.lengthOnLine ≠ none := fun hnone => by
    have hsome := h.2.1
    simp [instantOf, hnone] at hsome
  refine congrArg Host.Outcome.next ((if_neg (by simp [h.1])).trans ((if_neg hlength).trans ?_))
  exact ownRow_of_comes h

/-- The end of another record comes by its row (log 8). -/
theorem recordSent_of_unstated (hreset : s.inReset = false) (hlength : s.link.lengthOnLine = none)
    (hafter : (s.elapseOwn dt).link.lengthOnLine = none) (hbusy : (s.elapseOwn dt).link.tx ≠ .idle) :
    exec (.recordSent dt) s = .next (s.elapseOwn dt).sentRecord := by
  refine congrArg Host.Outcome.next ((if_neg (by simp [hreset])).trans ((if_pos hlength).trans ?_))
  simp [sentUnstated, hafter, hbusy]

end State
end Sys2Proof.Machine

section
open Sys2Proof Sys2Proof.Machine

/-- Settles O49: the arbiter's choice slot by slot, and the length of the records whose layout is given. -/
theorem transmitterChoosesByPrecedence : Obligations.TransmitterChoosesByPrecedence := by
  unfold Obligations.TransmitterChoosesByPrecedence
  intro sends
  have hsends (u : State) : sends u u.sentRecord := by
    unfold sends
    intro l left starts notice
    obtain ⟨hrate, hframer, herrors, hoverruns⟩ := Link.arbitrate_frame u.now u.linkAfter
    refine ⟨rfl, Link.arbitrate_replies _ _, hrate, herrors, hoverruns, hframer, fun r hr => ?_, fun hnone => ?_⟩
    · have hlink : u.sentRecord.link = _ := Link.arbitrate_of_frameStart (l := u.linkAfter) hr
      exact ⟨⟨congrArg Link.tx hlink, congrArg Link.txStart hlink⟩, congrArg Link.frameStart hlink,
        (congrArg Link.slots hlink :)⟩
    have hnotice {n : Notice} {merge : Nat} {slots : NoticeSlots} (hleft : left = [])
        (htake : l.slots.take = some (n, merge, slots)) : notice n merge slots := by
      have hlink : u.sentRecord.link = _ := Link.arbitrate_of_notice (l := u.linkAfter) hnone hleft htake
      exact ⟨⟨congrArg Link.tx hlink, congrArg Link.txStart hlink⟩, congrArg Link.slots hlink⟩
    refine ⟨?_, fun hleft => ?_, fun hleft => ⟨fun h hs => ?_, fun h hs hc => ?_, fun h hs hc hp => ?_,
      fun h hs hc hp hl => ?_, fun h hs hc hp hl ho => ?_, fun h hs hc hp hl ho hst => ?_, fun hempty => ?_⟩⟩
    · by_cases hleft : left = []
      · cases htake : l.slots.take with
        | none =>
          have hlink : u.sentRecord.link = _ := Link.arbitrate_of_nothing (l := u.linkAfter) hnone hleft htake
          exact (congrArg Link.frameStart hlink).trans hnone
        | some x =>
          have hlink : u.sentRecord.link = _ := Link.arbitrate_of_notice (l := u.linkAfter) hnone hleft htake
          exact (congrArg Link.frameStart hlink).trans hnone
      · have hlink : u.sentRecord.link = _ := Link.arbitrate_of_reply (l := u.linkAfter) hnone hleft
        exact (congrArg Link.frameStart hlink).trans hnone
    · have hlink : u.sentRecord.link = _ := Link.arbitrate_of_reply (l := u.linkAfter) hnone hleft
      exact ⟨⟨congrArg Link.tx hlink, congrArg Link.txStart hlink⟩, (congrArg Link.slots hlink :)⟩
    · exact hnotice hleft (by simp [NoticeSlots.take, hs])
    · exact hnotice hleft (by simp [NoticeSlots.take, hs, hc])
    · exact hnotice hleft (by simp [NoticeSlots.take, hs, hc, hp])
    · exact hnotice hleft (by simp [NoticeSlots.take, hs, hc, hp, hl])
    · exact hnotice hleft (by simp [NoticeSlots.take, hs, hc, hp, hl, ho])
    · exact hnotice hleft (by simp [NoticeSlots.take, hs, hc, hp, hl, ho, hst])
    · have hlink : u.sentRecord.link = _ :=
        Link.arbitrate_of_nothing (l := u.linkAfter) hnone hleft (congrArg NoticeSlots.take hempty)
      exact ⟨congrArg Link.tx hlink, (congrArg Link.slots hlink :)⟩
  refine ⟨fun dt s at_ hcomes => ⟨_, State.recordSent_of_comes hcomes dt, hsends _⟩,
    fun dt s hreset hlength hafter hbusy =>
      ⟨_, State.recordSent_of_unstated hreset hlength hafter hbusy, hsends _⟩, fun s n hn => ?_⟩
  have hlength : s.link.lengthOnLine = some n := by
    obtain ⟨r, htx, rfl⟩ | ⟨r, rest, htx, hreplies, hbody, rfl⟩ := hn
    · simp [Link.lengthOnLine, htx, FrameStartRecord.payload, bytesOf]
    · simp [Link.lengthOnLine, htx, hreplies, Reply.payload, hbody]
  simp only [State.instantOf, hlength, Option.map_some, State.sendTime]
  cases s.link.rate <;> rfl

end

/-! ### The words of a report (R116, R187) -/

namespace Sys2Proof.Machine
namespace State

variable {s : State} {p : Port}

/-- A report word by word: the first words are held, and the last one has the whole report judged. -/
theorem takeWord_of_off (at_ : Instant) (word : Word) (h : (s.port p).st = .off) : s.takeWord p at_ word = s :=
  if_pos h

theorem takeWord_of_bad_kind {at_ : Instant} {word : Word} (h : (s.port p).st ≠ .off)
    (hinbound : (s.port p).inbound = none) (hword : reportLength word = none) :
    s.takeWord p at_ word = s.countRxError p := by
  simp [takeWord, h, hinbound, hword]

/-- The port has this part of a report. -/
def holding (p : Port) (r : Option Inbound) (s : State) : State :=
  s.withPort p { s.port p with inbound := r }

theorem takeWord_of_kind {at_ : Instant} {word : Word} {n : Nat} (h : (s.port p).st ≠ .off)
    (hinbound : (s.port p).inbound = none) (hword : reportLength word = some n) :
    s.takeWord p at_ word = s.holding p (some ⟨[word], at_⟩) := by
  simp [takeWord, h, hinbound, hword, holding]

@[simp] theorem holding_port (r : Option Inbound) (s : State) :
    (s.holding p r).port p = { s.port p with inbound := r } := withPort_port_same ..

@[simp] theorem holding_holding (r r' : Option Inbound) (s : State) :
    (s.holding p r).holding p r' = s.holding p r' := by
  unfold holding
  cases p <;> rfl

theorem holding_none (h : (s.port p).inbound = none) : s.holding p none = s := by
  unfold holding
  rw [← h]
  exact withPort_self s p

/-- A further word of a report that has begun. -/
theorem takeWord_holding {at_ : Instant} {word kind : Word} {words : List Word} {arrival : Instant} {n : Nat}
    (h : (s.port p).st ≠ .off) (hkind : reportLength kind = some n) :
    (s.holding p (some ⟨kind :: words, arrival⟩)).takeWord p at_ word =
      if n ≤ words.length + 2 then
        (s.holding p none).judgeReport p ⟨kind :: (words ++ [word]), arrival⟩
      else s.holding p (some ⟨kind :: (words ++ [word]), arrival⟩) := by
  have hst : ((s.holding p (some ⟨kind :: words, arrival⟩)).port p).st ≠ .off := by
    rw [holding_port]
    exact h
  have hfold (r : Option Inbound) :
      (s.holding p (some ⟨kind :: words, arrival⟩)).withPort p
        { (s.holding p (some ⟨kind :: words, arrival⟩)).port p with inbound := r } = s.holding p r :=
    holding_holding _ r s
  unfold takeWord
  rw [if_neg hst]
  simp only [hfold]
  rw [holding_port]
  simp [hkind]

/-- The hub hears every word that came at most `span` microseconds ago. -/
theorem hears_of_openFor {span age : Nat} (h : (s.port p).openFor span s.now) (hage : age ≤ span) :
    s.hears p age = true := by
  unfold hears
  cases hopened : (s.port p).openedAt with
  | none => rfl
  | some t =>
    have ht : span ≤ (s.now - t).toNat := by simpa [BoardPort.openFor, hopened] using h
    exact decide_eq_true (hage.trans ht)

/-- One word of a report, received as long ago as its place says (log 15). -/
def takeAged (p : Port) (span n : Nat) (s : State) (x : Word × Nat) : State :=
  if s.hears p (wordAge span n x.2) then s.takeWord p (s.now - micro (wordAge span n x.2)) x.1 else s

theorem takeWords_eq (span : Nat) (words : List Word) (s : State) :
    s.takeWords p span words = words.zipIdx.foldl (takeAged p span words.length) s := rfl

theorem takeAged_of_heard {span n : Nat} (h : (s.port p).openFor span s.now) (x : Word × Nat) :
    takeAged p span n s x = s.takeWord p (s.now - micro (wordAge span n x.2)) x.1 :=
  if_pos (hears_of_openFor h (Nat.sub_le _ _))

theorem takeWords_of_off (span : Nat) (words : List Word) (h : (s.port p).st = .off) :
    s.takeWords p span words = s := by
  rw [takeWords_eq]
  generalize words.zipIdx = xs
  induction xs with
  | nil => rfl
  | cons x xs ih =>
    have hx : takeAged p span words.length s x = s := by
      unfold takeAged
      split
      · exact takeWord_of_off _ _ h
      · rfl
    rw [List.foldl_cons, hx]
    exact ih

section
variable {span : Nat} (hst : (s.port p).st ≠ .off) (hopen : (s.port p).openFor span s.now)
include hst hopen

/-- The words after the kind word, up to the last one. -/
theorem foldl_takeAged {kind : Word} {n : Nat} (hkind : reportLength kind = some n) (arrival : Instant)
    (pre rest : List Word) (i k : Nat) (hrest : rest ≠ []) (hn : n = pre.length + rest.length + 1) :
    (rest.zipIdx i).foldl (takeAged p span k) (s.holding p (some ⟨kind :: pre, arrival⟩)) =
      (s.holding p none).judgeReport p ⟨kind :: (pre ++ rest), arrival⟩ := by
  have hheard (r : Option Inbound) (x : Word × Nat) :
      takeAged p span k (s.holding p r) x =
        (s.holding p r).takeWord p (s.now - micro (wordAge span k x.2)) x.1 := by
    refine takeAged_of_heard ?_ x
    rw [holding_port]
    exact hopen
  induction rest generalizing pre i with
  | nil => exact absurd rfl hrest
  | cons w rest ih =>
    simp only [List.length_cons] at hn
    rw [List.zipIdx_cons, List.foldl_cons, hheard, takeWord_holding hst hkind]
    by_cases hlast : rest = []
    · subst hlast
      rw [if_pos (by simp at hn; omega)]
      rfl
    · have hpos : 0 < rest.length := List.length_pos_iff.mpr hlast
      rw [if_neg (by omega), ih (pre ++ [w]) (i + 1) hlast (by simp; omega)]
      simp

/-- A whole report heard word by word is judged at its last word, as arrived at its first (R116, R187). -/
theorem takeWords_of_report {kind : Word} {rest : List Word} (hinbound : (s.port p).inbound = none)
    (hkind : reportLength kind = some (rest.length + 1)) (hrest : rest ≠ []) :
    s.takeWords p span (kind :: rest) = s.judgeReport p ⟨kind :: rest, s.now - micro span⟩ := by
  have hfirst : takeAged p span (rest.length + 1) s (kind, 0) = s.holding p (some ⟨[kind], s.now - micro span⟩) := by
    rw [takeAged_of_heard hopen, takeWord_of_kind hst hinbound hkind]
    simp [wordAge]
  rw [takeWords_eq, List.zipIdx_cons, List.foldl_cons, List.length_cons, hfirst,
    foldl_takeAged hst hopen hkind _ [] rest _ _ hrest (by simp), holding_none hinbound]
  rfl

end

theorem judgeReport_of_bad_sum {kind sum : Word} {fields : List Word} {arrival : Instant}
    (h : sum ≠ fields.foldl (· + ·) kind) :
    s.judgeReport p ⟨kind :: (fields ++ [sum]), arrival⟩ = s.countRxError p := by
  refine if_neg ?_
  have hdrop : (kind :: (fields ++ [sum])).dropLast = kind :: fields := by
    rw [← List.cons_append, List.dropLast_concat]
  have hlast : (kind :: (fields ++ [sum])).getLastD 0 = sum := by
    rw [← List.cons_append, List.getLastD_concat]
  rw [hdrop, hlast]
  simpa [sumOf] using Ne.symm h

theorem judgeReport_of_sum {words : List Word} {arrival : Instant} :
    s.judgeReport p ⟨words ++ [sumOf words], arrival⟩ = s.takeReport p arrival (words ++ [sumOf words]) := by
  refine if_pos ?_
  rw [List.dropLast_concat, List.getLastD_concat]

end State

theorem reportLength_of_bad {word : Word} (h : word.toNat = 0 ∨ 3 < word.toNat) : reportLength word = none := by
  unfold reportLength
  rw [if_neg (by bv_omega), if_neg (by bv_omega), if_neg (by bv_omega)]

theorem reportLength_of_kind {kind : Word} (h1 : 1 ≤ kind.toNat) (h3 : kind.toNat ≤ 3) :
    reportLength kind = some (if kind.toNat = 1 then 5 else 3) := by
  have hkind : kind = 1 ∨ kind = 2 ∨ kind = 3 := by bv_omega
  obtain rfl | rfl | rfl := hkind <;> rfl

end Sys2Proof.Machine

section
open Sys2Proof Sys2Proof.Machine

/-- Settles O35: the kind word alone, the whole report, and the report of which the last word alone is taken. -/
theorem badWordsAreCounted : Obligations.BadWordsAreCounted := by
  unfold Obligations.BadWordsAreCounted
  intro dt p s hreset u b counted hinbound
  have hout (act : State → State) : outside dt act s = act u := outside_of_running dt act hreset
  refine ⟨fun word hword => ?_, fun span kind fields sum h1 h3 hlen hsum hopen => ?_,
    fun span frame t hst hopened hlate => ?_⟩
  · refine congrArg Host.Outcome.next ((hout _).trans ?_)
    split_ifs with hoff
    · exact State.takeWord_of_off _ _ hoff
    · exact State.takeWord_of_bad_kind hoff hinbound (reportLength_of_bad hword)
  · refine congrArg Host.Outcome.next ((hout _).trans ?_)
    split_ifs with hoff
    · exact State.takeWords_of_off _ _ hoff
    · have hkind : reportLength kind = some ((fields ++ [sum]).length + 1) := by
        rw [reportLength_of_kind h1 h3, List.length_append, hlen]
        split_ifs <;> rfl
      exact (State.takeWords_of_report hoff hopen hinbound hkind (by simp)).trans
        (State.judgeReport_of_bad_sum hsum)
  · intro word
    refine congrArg Host.Outcome.next ((hout _).trans ?_)
    have hopened' : (u.port p).openedAt = some t := hopened
    have hdeaf (age : Nat) (hage : (u.now - t).toNat < age) : u.hears p age = false := by
      unfold State.hears
      rw [hopened']
      exact decide_eq_false hage.not_ge
    have hage (i : Nat) : State.wordAge span 3 i = span - span * i / 2 := rfl
    have hfirst : State.takeAged p span 3 u (2, 0) = u :=
      if_neg (by
        rw [hage, hdeaf _ (hlate.trans_le (by omega))]
        exact Bool.false_ne_true)
    have hsecond : State.takeAged p span 3 u (frame, 1) = u :=
      if_neg (by
        rw [hage, hdeaf _ (hlate.trans_le (by omega))]
        exact Bool.false_ne_true)
    have hheard : u.hears p 0 = true := by
      unfold State.hears
      rw [hopened']
      exact decide_eq_true (Nat.zero_le _)
    have hthird : State.takeAged p span 3 u (word, 2) = u.takeWord p u.now word := by
      have hzero : State.wordAge span 3 2 = 0 := by
        rw [hage]
        omega
      unfold State.takeAged
      rw [hzero, hheard]
      simp [micro]
    have hsum : sumOf [2, frame] = word := by simp [sumOf, word]
    have hwords : u.takeSummed p span [2, frame] = u.takeWord p u.now word := by
      unfold State.takeSummed
      rw [hsum, State.takeWords_eq]
      simp only [List.cons_append, List.nil_append, List.zipIdx_cons, List.zipIdx_nil, List.foldl_cons,
        List.foldl_nil, List.length_cons, List.length_nil]
      rw [hfirst, hsecond, hthird]
    refine hwords.trans ?_
    split_ifs with hkind
    · exact State.takeWord_of_kind hst hinbound (reportLength_of_kind hkind.1 hkind.2)
    · exact State.takeWord_of_bad_kind hst hinbound (reportLength_of_bad (by omega))

end

/-! ### The frame start, part by part (R2, R16, R30, R35, R47, R84, R90, R110) -/

namespace Sys2Proof.Machine

@[simp] theorem Clock.frameStart_cueTime (c : Clock) : c.frameStart.cueTime = c.cueTime := by
  simp [Clock.frameStart, Clock.beginFrame]

namespace BoardPort

/-- What a frame start does to a port that is not lost: its echo ages, and the next one may be issued (R110,
R113). -/
def echoStep (now : Instant) (b : BoardPort) : BoardPort := (b.ageOpening now).ageEcho.frameStartIssue

theorem goesLost_of_steady {b c : BoardPort} (h : b.Steady c) : c.goesLost = b.goesLost := by
  simp only [goesLost, echoIsMissed, h.st, h.echo]

end BoardPort

namespace State

variable {s : State} {p : Port}

/-! #### Its rows -/

theorem exec_frameStart_of_comes (h : s.frameEndComes) :
    exec .frameStart s = .next (s.atInstant s.clock.frameEnd).frameStart :=
  congrArg Host.Outcome.next (ownRow_of_comes h)

/-- The row of a frame start that brings something takes it where it brings it (log 3). -/
theorem frameRow_of_comes {brings : State → Bool} (h : s.frameEndComes)
    (hbrings : brings (s.atInstant s.clock.frameEnd) = true) :
    s.frameRow brings = (s.atInstant s.clock.frameEnd).frameStart := by
  have hdue : (s.atInstant s.clock.frameEnd).isDueNow .frameStart = true := by
    simp [isDueNow, instantOf, reached, atInstant]
  unfold frameRow
  rw [if_neg (by simp [h.1]), before_of_comes h, if_pos (by simp [hdue, hbrings])]

/-! #### Channels and generators -/

theorem frameStart_channels (s : State) :
    s.frameStart.channels = mapTable (Channel.age s.now s.clock.set.frameLen) s.channels := by
  unfold frameStart
  dsimp only
  split <;> simp [sourcesFrameStart, ageChannels, now]

theorem frameStart_gens (s : State) :
    s.frameStart.gens =
      mapTable (Generator.frameStart s.clock.renumber s.now (s.now + micro s.clock.set.presentPhase)) s.gens := by
  unfold frameStart
  dsimp only
  split <;> simp [sourcesFrameStart, frameStartGenerators, currentPresentation, now]

/-! #### What the controller's step leaves of a port -/

theorem enterPaused_steady (cause : StateCause) (s : State) (p : Port) :
    (s.port p).Steady ((s.enterPaused cause).port p) := by
  rw [enterPaused_port]
  simp [BoardPort.steady_iff]

theorem enterHalted_steady (reason : HaltReason) (cause : StateCause) (s : State) (p : Port) :
    (s.port p).Steady ((s.enterHalted reason cause).port p) := by
  rw [enterHalted_port_eq]
  simp [BoardPort.steady_iff]

theorem steady_of_ports_eq {t : State} (h : t.ports = s.ports) (p : Port) : (s.port p).Steady (t.port p) := by
  rw [port_of_ports_eq h p]
  exact .refl _

theorem rampStep_steady (s : State) (p : Port) : (s.port p).Steady (s.rampStep.port p) := by
  by_cases hin : s.ctrl.st = .rampIn
  · rw [rampStep_of_rampIn hin]
    split
    · exact steady_of_ports_eq (by simp) p
    · exact steady_of_ports_eq (by simp) p
  by_cases hout : s.ctrl.st = .rampOut
  · rw [rampStep_of_rampOut hout]
    split
    · exact enterPaused_steady _ s p
    · exact steady_of_ports_eq (by simp) p
  · rw [rampStep_of_steady hin hout]
    exact .refl _

/-- The hub states that the expiry of HOLDOVER halts (R35). -/
def inMotion (st : HubState) : Prop := st = .rampIn ∨ st = .live ∨ st = .rampOut ∨ st = .paused

theorem clockLost_of_inMotion (h : inMotion s.ctrl.st) : s.clockLost = s.enterHalted .clockLost .clockLost := by
  unfold clockLost
  obtain h | h | h | h := h <;> rw [h]

theorem clockLost_of_still (h : ¬inMotion s.ctrl.st) : s.clockLost = s := by
  unfold inMotion at h
  unfold clockLost
  split <;> simp_all

theorem clockLost_steady (s : State) (p : Port) : (s.port p).Steady (s.clockLost.port p) := by
  by_cases h : inMotion s.ctrl.st
  · rw [clockLost_of_inMotion h]
    exact enterHalted_steady _ _ s p
  · rw [clockLost_of_still h]
    exact .refl _

theorem controllerFrameStart_steady (expired : Bool) (s : State) (p : Port) :
    (s.port p).Steady ((s.controllerFrameStart expired).port p) := by
  unfold controllerFrameStart
  split
  · split
    · exact (clockLost_steady s p).trans (rampStep_steady _ p)
    · exact (rampStep_steady s p).trans (clockLost_steady _ p)
  · exact rampStep_steady s p

theorem recordAndStep_steady (expired : Bool) (s : State) (p : Port) :
    (s.port p).Steady ((s.recordAndStep expired).port p) := by
  unfold recordAndStep
  split
  · exact (steady_of_ports_eq (by simp) p).trans (controllerFrameStart_steady expired _ p)
  · exact (controllerFrameStart_steady expired s p).trans (steady_of_ports_eq (by simp) p)

theorem sourcesFrameStart_steady (renumbering expired : Bool) (s : State) (p : Port) :
    (s.port p).Steady ((s.sourcesFrameStart renumbering expired).port p) := by
  refine (recordAndStep_steady expired s p).trans (steady_of_ports_eq ?_ p)
  simp [sourcesFrameStart]

/-! #### The schedulers and the event queue -/

/-- The port with the instants of its scheduler as a frame start leaves them (R132, R133). -/
def rescheduled (renumbering : Bool) (c : Clock) (b : BoardPort) : BoardPort :=
  if b.sched = none then b else if renumbering then b.takeFirst c else b.reform c

theorem schedulerFrameStart_eq (renumbering : Bool) (p : Port) (s : State) :
    s.schedulerFrameStart renumbering p = s.withPort p (rescheduled renumbering s.clock (s.port p)) := by
  unfold schedulerFrameStart rescheduled
  split
  · next h => simp [h, withPort_self]
  · next sc h => simp [h]

theorem rescheduled_steady (renumbering : Bool) (c : Clock) (b : BoardPort) :
    b.Steady (rescheduled renumbering c b) := by
  unfold rescheduled BoardPort.reform
  split_ifs
  · exact .refl b
  · simp [BoardPort.takeFirst, BoardPort.steady_iff]
  · split
    · simp [BoardPort.steady_iff]
    · exact .refl b

/-- The schedulers and the queue have taken the frame start; what falls due in it comes after (R132, R145). -/
def reordered (renumbering : Bool) (s : State) : State :=
  let s :=
    ((s.schedulerFrameStart renumbering .vision).schedulerFrameStart renumbering
      .sound).schedulerFrameStart renumbering .cab
  if renumbering then s.flushUnsent else s.refreshEvents (fun _ => true)

theorem deliveryFrameStart_eq (renumbering : Bool) (s : State) :
    s.deliveryFrameStart renumbering = (s.reordered renumbering).finishLines := rfl

theorem reordered_port (renumbering : Bool) (s : State) (p : Port) :
    (s.reordered renumbering).port p = rescheduled renumbering s.clock (s.port p) := by
  have hqueue (u : State) : (if renumbering then u.flushUnsent else u.refreshEvents fun _ => true).port p =
      u.port p := port_of_ports_eq (by split <;> simp) p
  unfold reordered
  rw [hqueue]
  simp only [schedulerFrameStart_eq, withPort_port]
  cases p <;> simp

theorem deliveryFrameStart_steady (renumbering : Bool) (s : State) (p : Port) :
    (s.port p).Steady ((s.deliveryFrameStart renumbering).port p) := by
  rw [deliveryFrameStart_eq]
  refine BoardPort.Steady.trans ?_ (finishLines_steady _ p)
  rw [reordered_port]
  exact rescheduled_steady renumbering s.clock _

/-! #### The echoes -/

theorem echoFrameStart_of_kept (h : (s.port p).goesLost = false) :
    s.echoFrameStart p = s.withPort p ((s.port p).echoStep s.now) := by
  have hlost : ((s.port p).ageOpening s.now).goesLost = false := h
  simp [echoFrameStart, hlost, BoardPort.echoStep]

theorem portOrder_nodup (s : State) : s.portOrder.Nodup := by
  unfold portOrder
  split <;> decide

theorem mem_portOrder (s : State) (p : Port) : p ∈ s.portOrder := by
  unfold portOrder
  split <;> cases p <;> simp

theorem foldl_echoFrameStart {ps : List Port} (hps : ps.Nodup) (h : ∀ p ∈ ps, (s.port p).goesLost = false) :
    ps.foldl (fun s p => s.echoFrameStart p) s =
      ps.foldl (fun u p => u.withPort p ((s.port p).echoStep s.now)) s := by
  suffices hfold : ∀ u : State, u.now = s.now → (∀ p ∈ ps, u.port p = s.port p) →
      ps.foldl (fun s p => s.echoFrameStart p) u =
        ps.foldl (fun u p => u.withPort p ((s.port p).echoStep s.now)) u from hfold s rfl fun _ _ => rfl
  induction ps with
  | nil => exact fun _ _ _ => rfl
  | cons p ps ih =>
    intro u hnow hports
    obtain ⟨hp, hnodup⟩ := List.nodup_cons.mp hps
    have hport : u.port p = s.port p := hports p (by simp)
    rw [List.foldl_cons, List.foldl_cons, echoFrameStart_of_kept (by rw [hport]; exact h p (by simp)), hport, hnow]
    refine ih hnodup (fun q hq => h q (List.mem_cons_of_mem p hq)) _ hnow fun q hq => ?_
    have hqp : q ≠ p := fun hqp => hp (hqp ▸ hq)
    rw [withPort_port, if_neg hqp]
    exact hports q (List.mem_cons_of_mem p hq)

/-- Where no port is lost, the echoes at a frame start are each port's own (R110, R113). -/
theorem echoesFrameStart_eq (h : ∀ p, (s.port p).goesLost = false) :
    s.echoesFrameStart =
      { s with
        ports :=
          ⟨(s.port .vision).echoStep s.now, (s.port .sound).echoStep s.now, (s.port .cab).echoStep s.now⟩ } := by
  have hfold := foldl_echoFrameStart s.portOrder_nodup fun p _ => h p
  refine hfold.trans ?_
  unfold portOrder
  split <;> rfl

/-! #### The controller -/

/-- Where no port is lost, the ramp step and the expiry of HOLDOVER alone move the controller (R16, R30, R35). -/
theorem frameStart_ctrl (h : ∀ p, (s.port p).goesLost = false) :
    ∃ u : State, u.ctrl = s.ctrl ∧ s.frameStart.ctrl = (u.controllerFrameStart s.expires).ctrl := by
  have hsources (u : State) (hu : u.ctrl = s.ctrl) : ∃ v : State, v.ctrl = s.ctrl ∧
      (u.sourcesFrameStart s.clock.renumber s.expires).ctrl = (v.controllerFrameStart s.expires).ctrl := by
    have hctrl : (u.sourcesFrameStart s.clock.renumber s.expires).ctrl = (u.recordAndStep s.expires).ctrl := by
      simp [sourcesFrameStart]
    obtain hstep | hstep := recordAndStep_ctrl s.expires u
    · exact ⟨u, hu, hctrl.trans hstep⟩
    · exact ⟨u.handFrameStart, by simpa using hu, hctrl.trans hstep⟩
  have hechoes (u : State) (hu : ∀ p, (s.port p).Steady (u.port p)) : u.echoesFrameStart.ctrl = u.ctrl := by
    rw [echoesFrameStart_eq fun p => (BoardPort.goesLost_of_steady (hu p)).trans (h p)]
  have hclock (p : Port) : (s.port p).Steady (s.clockFrameStart.port p) := steady_of_ports_eq (by simp) p
  unfold frameStart
  dsimp only
  split
  · obtain ⟨v, hv, hstep⟩ := hsources (s.clockFrameStart.deliveryFrameStart s.clock.renumber) (by simp)
    refine ⟨v, hv, ?_⟩
    rw [← hstep]
    simp only [kick_frame, nextChoice_frame, finishLines_frame]
    exact hechoes _ fun p => ((hclock p).trans (deliveryFrameStart_steady _ _ p)).trans
      (sourcesFrameStart_steady _ _ _ p)
  · obtain ⟨v, hv, hstep⟩ := hsources s.clockFrameStart (by simp)
    refine ⟨v, hv, ?_⟩
    rw [← hstep]
    simp only [kick_frame, nextChoice_frame, finishLines_frame, deliveryFrameStart_frame]
    exact hechoes _ fun p => (hclock p).trans (sourcesFrameStart_steady _ _ _ p)

end State
end Sys2Proof.Machine

section
open Sys2Proof Sys2Proof.Machine

/-- Settles O21: the frame start ages every channel by its own stream and settings (R47, R48). -/
theorem staleEntryAgesTheChannels : Obligations.StaleEntryAgesTheChannels := by
  unfold Obligations.StaleEntryAgesTheChannels
  intro s ch n hcomes hnewest hold
  have hstale : (s.channels[ch]).goesStale s.clock.frameEnd s.clock.set.frameLen = true := by
    unfold Channel.goesStale
    obtain hst | ⟨o, hst⟩ := hnewest <;> rw [hst] <;> exact decide_eq_true hold
  have hrow : exec (.staleEntry ch) s = .next (s.atInstant s.clock.frameEnd).frameStart :=
    congrArg Host.Outcome.next (State.frameRow_of_comes hcomes hstale)
  have hchannels := (s.atInstant s.clock.frameEnd).frameStart_channels
  refine ⟨_, hrow, by simp [State.atInstant], ?_, fun i => ?_⟩
  · rw [hchannels]
    simp only [Fin.getElem_fin, mapTable_getElem, Channel.age]
    have hold' : Stream.tooOld s.clock.frameEnd n.instant (s.channels[ch]).staleLimit s.clock.set.frameLen = true :=
      decide_eq_true hold
    change (s.channels[ch]).stream.age s.clock.frameEnd (s.channels[ch]).staleLimit s.clock.set.frameLen = _
    obtain hst | ⟨o, hst⟩ := hnewest <;> rw [hst] <;> exact if_pos hold'
  · intro c old
    rw [hchannels]
    simp only [Fin.getElem_fin, mapTable_getElem, Channel.age]
    change { c with stream := c.stream.age s.clock.frameEnd c.staleLimit s.clock.set.frameLen } = _
    congr 1
    cases c.stream <;> rfl

end

/-! ### The generators at a frame start (R84, R90) -/

namespace Sys2Proof.Machine

/-- The distance to an instant that moved by `k`, inside the half range. -/
theorem diff_add_ofInt {x y : Instant} {k : Int} (h : -2 ^ 31 ≤ diff x y - k) (h' : diff x y - k < 2 ^ 31) :
    diff x (y + BitVec.ofInt 32 k) = diff x y - k := by
  have hsub : x - (y + BitVec.ofInt 32 k) = x - y - BitVec.ofInt 32 k := by abel
  unfold diff at h h' ⊢
  rw [hsub, BitVec.toInt_sub, BitVec.toInt_ofInt, Int.sub_bmod_bmod]
  exact Int.bmod_eq_of_le (by simpa using h) (by simpa using h')

/-- Distances add up, inside the half range. -/
theorem diff_add_diff {x y z : Instant} (h : -2 ^ 31 ≤ diff x y + diff y z) (h' : diff x y + diff y z < 2 ^ 31) :
    diff x z = diff x y + diff y z := by
  have hsub : x - z = x - y + (y - z) := by abel
  unfold diff at h h' ⊢
  rw [hsub, BitVec.toInt_add]
  exact Int.bmod_eq_of_le (by simpa using h) (by simpa using h')

namespace Generator

variable {g : Generator}

theorem periodInUse_pos (g : Generator) : 0 < (g.periodInUse : Int) := by
  unfold periodInUse
  split
  · decide
  · next h => bv_omega

/-- The level of a wave sees its anchor modulo the period alone (R85). -/
theorem level_congr_anchor {a b p : Instant} (hmode : g.mode = .periodic)
    (h : (diff p a).emod g.periodInUse = (diff p b).emod g.periodInUse) :
    ({ g with anchor := .at a }).level p = ({ g with anchor := .at b }).level p := by
  have hlevel (a : Instant) : ({ g with anchor := .at a }).level p =
      (if (diff p a).emod g.periodInUse < (g.highTime.toNat : Int) then g.levelA else g.levelB).toInt := by
    simp only [level, hmode]
    rfl
  rw [hlevel, hlevel, h]

theorem frameStart_of_pulseEnds {renumbering : Bool} {now p : Instant} (hmode : g.mode = .oneShot)
    (h : g.pulseEnds p = true) : g.frameStart renumbering now p = { g with runState := .idle } := by
  simp [frameStart, h, advanceAnchor, hmode]

theorem frameStart_of_pending {now p : Instant} (hmode : g.mode = .periodic) (hanchor : g.anchor = .pending) :
    g.frameStart true now p = { g with anchor := .at now } := by
  simp [frameStart, advanceAnchor, pulseEnds, hmode, hanchor]

theorem frameStart_of_periodic {renumbering : Bool} {now p a : Instant} (hmode : g.mode = .periodic)
    (hanchor : g.anchor = .at a) :
    g.frameStart renumbering now p =
      { g with anchor := .at (a + BitVec.ofInt 32 (diff now a / g.periodInUse * g.periodInUse)) } := by
  simp [frameStart, advanceAnchor, pulseEnds, hmode, hanchor]

end Generator
end Sys2Proof.Machine

section
open Sys2Proof Sys2Proof.Machine

/-- Settles O28: the advance moves the anchor by whole periods, which the level does not see (R84, R85). -/
theorem generatorsAtAFrameStart : Obligations.GeneratorsAtAFrameStart := by
  unfold Obligations.GeneratorsAtAFrameStart
  refine ⟨fun s g at_ hcomes hmode hrun htrigger hend => ?_,
    fun g renumbering anchor now p instant hmode hanchor hnow hinstant hrange => ?_,
    fun s g hcomes hrenumber hmode hanchor => ?_⟩
  · let u := s.atInstant s.clock.frameEnd
    have hends : (s.gens[g]).pulseEnds (u.now + micro u.clock.set.presentPhase) = true := by
      unfold Generator.pulseEnds
      rw [hmode, hrun, htrigger]
      exact decide_eq_true hend
    have hrow : exec (.pulseEnd g) s = .next u.frameStart :=
      congrArg Host.Outcome.next (State.frameRow_of_comes hcomes hends)
    have hg : u.frameStart.gens[g] = { s.gens[g] with runState := .idle } := by
      rw [State.frameStart_gens, Fin.getElem_fin, mapTable_getElem]
      exact Generator.frameStart_of_pulseEnds hmode hends
    refine ⟨_, hrow, by simp [u, State.atInstant], hg, fun p => ?_⟩
    rw [hg]
    rfl
  · intro next
    have hnext := Generator.frameStart_of_periodic (renumbering := renumbering) (now := now) (p := p) hmode hanchor
    have hpos := g.periodInUse_pos
    set n := (g.periodInUse : Int)
    have hdiv : diff now anchor / n * n = diff now anchor - diff now anchor % n := by
      rw [Int.emod_def]
      ring
    have hmod := Int.emod_nonneg (diff now anchor) hpos.ne'
    have hlt := Int.emod_lt_of_pos (diff now anchor) hpos
    have hwhole : 0 ≤ diff now anchor / n * n := mul_nonneg (Int.ediv_nonneg hnow hpos.le) hpos.le
    have hle : diff now anchor % n ≤ diff now anchor := by omega
    have hafter : diff now (anchor + BitVec.ofInt 32 (diff now anchor / n * n)) = diff now anchor % n := by
      rw [diff_add_ofInt] <;> rw [hdiv] <;> omega
    have hold : diff instant anchor = diff instant now + diff now anchor := diff_add_diff (by omega) (by omega)
    have hnew : diff instant (anchor + BitVec.ofInt 32 (diff now anchor / n * n)) =
        diff instant now + diff now anchor % n := by
      rw [← hafter] at hle hmod hlt ⊢
      exact diff_add_diff (by omega) (by omega)
    refine ⟨?_, _, congrArg Generator.anchor hnext, by rw [hafter]; exact hmod, ?_⟩
    · have hphase : (diff instant (anchor + BitVec.ofInt 32 (diff now anchor / n * n))).emod n =
          (diff instant anchor).emod n := by
        rw [hnew, hold]
        exact Int.add_emod_emod ..
      have hself : g = { g with anchor := .at anchor } := by rw [← hanchor]
      calc next.level instant
          _ = ({ g with anchor := .at (anchor + BitVec.ofInt 32 (diff now anchor / n * n)) }).level instant :=
            congrArg (Generator.level · instant) hnext
          _ = ({ g with anchor := .at anchor }).level instant := Generator.level_congr_anchor hmode hphase
          _ = g.level instant := (congrArg (Generator.level · instant) hself).symm
    · rw [hafter]
      refine hlt.trans_eq ?_
      unfold n Generator.periodInUse
      split <;> simp
  · refine ⟨_, State.exec_frameStart_of_comes hcomes, ?_⟩
    rw [State.frameStart_gens, Fin.getElem_fin, mapTable_getElem]
    have hrenumber' : (s.atInstant s.clock.frameEnd).clock.renumber = true := hrenumber
    rw [hrenumber']
    exact Generator.frameStart_of_pending hmode hanchor

end

/-! ### Clock and controller at a frame start (R14, R15, R30, R35) -/

namespace Sys2Proof.Machine

namespace Clock

variable {c : Clock}

/-- A frame without a capture that brings the miss count to MISS_LIMIT (R14). -/
theorem frameStart_of_misses (hst : c.st = .locked) (hcaptured : c.captured = false)
    (hlimit : c.set.missLimit ≤ countUp 15 1 c.missCount) :
    c.frameStart = { c.beginFrame with missCount := countUp 15 1 c.missCount }.toHoldover := by
  have hbegin : c.beginFrame.st = .locked := hst
  simp only [frameStart, countFrame, hbegin, hcaptured]
  exact if_pos hlimit

/-- A frame start in HOLDOVER that brings the holdover count to HOLDOVER_MAX (R15). -/
theorem frameStart_of_expiry (hst : c.st = .holdover)
    (hlimit : c.set.holdoverMax ≤ countUp 1000 1 c.holdoverCount) :
    c.frameStart =
      { c.beginFrame with
        holdoverCount := countUp 1000 1 c.holdoverCount
        st := .acquire
        goodCount := 0
        renumber := false } := by
  have hbegin : c.beginFrame.st = .holdover := hst
  simp only [frameStart, countFrame, hbegin]
  exact if_pos hlimit

end Clock

namespace State

variable {s : State}

theorem noteClock_clockSlot {left : ClockState} (cause : ClockCause) (hbusy : s.link.tx ≠ .idle)
    (hne : s.clock.st ≠ left) :
    (s.noteClock left cause).link.slots.clock =
      placedOver s.link.slots.clock (s.clockNotice left cause) := by
  have hnote : s.noteClock left cause = s.placeClock (s.clockNotice left cause) := if_neg hne
  rw [hnote, placeClock_of_busy _ hbusy]

theorem rampStep_reason (s : State) : s.rampStep.ctrl.reason = s.ctrl.reason ∧
    s.rampStep.ctrl.rampIn = s.ctrl.rampIn ∧ s.rampStep.ctrl.rampOut = s.ctrl.rampOut := by
  by_cases hin : s.ctrl.st = .rampIn
  · rw [rampStep_of_rampIn hin]
    split <;> simp
  by_cases hout : s.ctrl.st = .rampOut
  · rw [rampStep_of_rampOut hout]
    split <;> simp
  · rw [rampStep_of_steady hin hout]
    exact ⟨rfl, rfl, rfl⟩

theorem rampStep_inMotion (h : inMotion s.ctrl.st) : inMotion s.rampStep.ctrl.st := by
  by_cases hin : s.ctrl.st = .rampIn
  · rw [rampStep_of_rampIn hin]
    split <;> simp [inMotion, hin]
  by_cases hout : s.ctrl.st = .rampOut
  · rw [rampStep_of_rampOut hout]
    split <;> simp [inMotion, hout]
  · rwa [rampStep_of_steady hin hout]

/-- A hub in motion is HALTED by the expiry of HOLDOVER, before or after its ramp step (R35). -/
theorem controllerFrameStart_of_inMotion (h : inMotion s.ctrl.st) :
    (s.controllerFrameStart true).ctrl.st = .halted ∧ (s.controllerFrameStart true).ctrl.reason = .clockLost ∧
      (s.controllerFrameStart true).ctrl.f = 0 := by
  have hhalt (u : State) (hu : inMotion u.ctrl.st) :
      u.clockLost.ctrl.st = .halted ∧ u.clockLost.ctrl.reason = .clockLost ∧ u.clockLost.ctrl.f = 0 := by
    rw [clockLost_of_inMotion hu]
    simp
  simp only [controllerFrameStart, if_true]
  split
  · obtain ⟨hst, hreason, hf⟩ := hhalt s h
    rw [rampStep_of_steady (by simp [hst]) (by simp [hst])]
    exact ⟨hst, hreason, hf⟩
  · exact hhalt _ (rampStep_inMotion h)

theorem controllerFrameStart_of_still (expired : Bool) (hst : s.ctrl.st = .armed ∨ s.ctrl.st = .halted) :
    s.controllerFrameStart expired = s := by
  have hramp : s.rampStep = s :=
    rampStep_of_steady (by obtain h | h := hst <;> simp [h]) (by obtain h | h := hst <;> simp [h])
  have hclock : s.clockLost = s := clockLost_of_still (by obtain h | h := hst <;> simp [inMotion, h])
  simp [controllerFrameStart, hramp, hclock]

theorem sourcesFrameStart_ctrl_of_still (renumbering expired : Bool)
    (hst : s.ctrl.st = .armed ∨ s.ctrl.st = .halted) :
    (s.sourcesFrameStart renumbering expired).ctrl = s.ctrl := by
  have hctrl : (s.sourcesFrameStart renumbering expired).ctrl = (s.recordAndStep expired).ctrl := by
    simp [sourcesFrameStart]
  rw [hctrl]
  obtain hstep | hstep := recordAndStep_ctrl expired s
  · rw [hstep, controllerFrameStart_of_still expired hst]
  · rw [hstep, controllerFrameStart_of_still expired (by simpa using hst)]
    simp

/-- No frame start moves the controller in ARMED and HALTED. -/
theorem frameStart_ctrl_of_still (hst : s.ctrl.st = .armed ∨ s.ctrl.st = .halted) :
    s.frameStart.ctrl = s.ctrl := by
  have hparts (u : State) (r e : Bool) (hu : u.ctrl = s.ctrl) : (u.sourcesFrameStart r e).echoesFrameStart.ctrl = s.ctrl := by
    have hsources := sourcesFrameStart_ctrl_of_still r e (s := u) (by rwa [hu])
    rw [echoesFrameStart_ctrl_of_steady (by rwa [hsources, hu]), hsources, hu]
  unfold frameStart
  dsimp only
  split
  · simpa using hparts _ _ _ (by simp)
  · simpa using hparts _ _ _ (by simp)

end State
end Sys2Proof.Machine

section
open Sys2Proof Sys2Proof.Machine

/-- Settles O7: the count reaches its limit, the clock moves with its notice, and the controller takes an expiry. -/
theorem frameStartLeavesLockedOrHoldover : Obligations.FrameStartLeavesLockedOrHoldover := by
  unfold Obligations.FrameStartLeavesLockedOrHoldover
  intro s hcomes
  let u := s.atInstant s.clock.frameEnd
  refine ⟨fun hst hcaptured hcount hlimit => ?_, fun hst hcount hlimit => ?_⟩
  · have hmiss : countUp 15 1 s.clock.missCount = s.clock.missCount + 1 := by
      unfold countUp
      omega
    have hbrings : u.clock.missesReached = true := by
      simpa [Clock.missesReached, u, State.atInstant, hst, hcaptured] using hlimit
    have hrow : exec .misses s = .next u.frameStart :=
      congrArg Host.Outcome.next (State.frameRow_of_comes hcomes hbrings)
    have hclock := Clock.frameStart_of_misses (c := u.clock) hst hcaptured (hlimit.trans_eq hmiss.symm)
    have hframe : u.frameStart.clock = u.clock.frameStart := u.frameStart_clock
    rw [hclock] at hframe
    refine ⟨_, hrow, by rw [hframe]; rfl, by rw [hframe]; rfl, by rw [hframe]; rfl, ?_, by rw [hframe]; rfl,
      fun hbusy => ?_⟩
    · rw [hframe]
      exact hmiss
    · have hubusy : u.link.tx ≠ .idle := hbusy
      have hcause : u.clockFrameStart = (u.withClock u.clock.frameStart).noteClock .locked .misses := by
        have hust : u.clock.st = .locked := hst
        simp [State.clockFrameStart, hust]
      have hslot := State.noteClock_clockSlot (s := u.withClock u.clock.frameStart) (left := .locked) .misses
        hubusy (by rw [hclock]; simp [Clock.toHoldover])
      rw [u.notes_afterClock.clock (u.notes_clockFrameStart.busy hubusy), hcause, hslot, hframe]
      unfold State.clockNotice
      rw [State.withClock_clock, hclock]
      rfl
  · have hhold : countUp 1000 1 s.clock.holdoverCount = s.clock.holdoverCount + 1 := by
      unfold countUp
      omega
    have hbrings : u.clock.holdoverReached = true := by
      simpa [Clock.holdoverReached, u, State.atInstant, hst] using hlimit
    have hrow : exec .holdoverExpired s = .next u.frameStart :=
      congrArg Host.Outcome.next (State.frameRow_of_comes hcomes hbrings)
    have hclock := Clock.frameStart_of_expiry (c := u.clock) hst (hlimit.trans_eq hhold.symm)
    have hframe : u.frameStart.clock = u.clock.frameStart := u.frameStart_clock
    have hexpires : u.expires = true := by
      have hust : u.clock.st = .holdover := hst
      simp [State.expires, hust, hclock]
    rw [hclock] at hframe
    refine ⟨_, hrow, by rw [hframe], by rw [hframe], by rw [hframe], by rw [hframe]; rfl,
      fun hkept hmotion => ?_, fun hstill => State.frameStart_ctrl_of_still (s := u) hstill⟩
    obtain ⟨v, hv, hctrl⟩ := State.frameStart_ctrl (s := u) hkept
    rw [hctrl, hexpires]
    exact State.controllerFrameStart_of_inMotion (by rw [hv]; exact hmotion)

/-- Settles O8: the ramp step is all that the controller takes there (R30). -/
theorem frameStartStepsTheRamp : Obligations.FrameStartStepsTheRamp := by
  unfold Obligations.FrameStartStepsTheRamp
  intro s hcomes hlocked hkept
  let u := s.atInstant s.clock.frameEnd
  have hexpires : u.expires = false := by
    have hust : u.clock.st = .locked := hlocked
    simp [State.expires, hust]
  obtain ⟨v, hv, hctrl⟩ := State.frameStart_ctrl (s := u) hkept
  have hv' : v.ctrl = s.ctrl := hv
  have hstep : u.frameStart.ctrl = v.rampStep.ctrl := by
    rw [hctrl, hexpires]
    rfl
  obtain ⟨hreason, hrampIn, hrampOut⟩ := State.rampStep_reason v
  rw [hv', ← hstep] at hreason hrampIn hrampOut
  refine ⟨_, State.exec_frameStart_of_comes hcomes, hreason, hrampIn, hrampOut, ?_, ?_, ?_⟩
  · intro hst f
    have hf : v.risen = f := by
      unfold State.risen
      rw [hv']
      rfl
    rw [hstep, State.rampStep_of_rampIn (by rw [hv']; exact hst), hf]
    split <;> simp_all
  · intro hst f
    have hf : v.fallen = f := by
      unfold State.fallen
      rw [hv']
      rfl
    rw [hstep, State.rampStep_of_rampOut (by rw [hv']; exact hst), hf]
    split <;> simp_all
  · intro hin hout
    rw [hstep, State.rampStep_of_steady (by rwa [hv']) (by rwa [hv']), hv']
    exact ⟨rfl, rfl⟩

end

/-! ### Edges of the frame reference (R7 to R15) -/

namespace Sys2Proof.Machine

namespace Clock

variable {c : Clock}

theorem isGood_eq (c : Clock) : c.isGood = decide (|c.folded| ≤ (c.set.lockWindow : Int)) := by
  unfold isGood
  rw [decide_eq_decide, Int.abs_eq_natAbs]
  exact Int.ofNat_le.symm

/-- The good count after one more good capture (R12, R15). -/
def goodAfter (c : Clock) : Nat := min 31 (c.goodCount + 1)

/-- The capture locks the clock (R12, R15). -/
abbrev relocks (good : Bool) (c : Clock) : Prop := c.st ≠ .locked ∧ good = true ∧ c.set.nLock ≤ c.goodAfter

/-- What a capture that does not jump does to state and counts, by the tables of R12, R14 and R15. -/
theorem judgeCapture_eq (good : Bool) (h : c.st ≠ .free) :
    c.judgeCapture good =
      { c with
        st :=
          if c.relocks good then .locked
          else if c.st = .locked ∧ good = false then .holdover
          else c.st
        goodCount :=
          if c.st = .locked then (if good then c.goodCount else 0) else if good then c.goodAfter else 0
        missCount := if c.relocks good ∨ (c.st = .locked ∧ good = true) then 0 else c.missCount
        holdoverCount := if c.st = .locked ∧ good = false then 0 else c.holdoverCount } := by
  have hcount : countUp 31 1 c.goodCount = c.goodAfter := rfl
  have hadd (hst : c.st ≠ .locked) : c.addGood =
      { c with
        st := if c.relocks true then .locked else c.st
        goodCount := c.goodAfter
        missCount := if c.relocks true then 0 else c.missCount } := by
    simp only [addGood, hcount]
    split <;> simp_all
  obtain hst | hst | hst : c.st = .acquire ∨ c.st = .locked ∨ c.st = .holdover := by
    cases hc : c.st <;> simp_all
  · cases good <;> simp [judgeCapture, hst, hadd]
  · cases good <;> simp [judgeCapture, hst, toHoldover]
  · cases good <;> simp [judgeCapture, hst, hadd]

theorem jumps_iff : c.jumps = true ↔ c.st = .acquire ∧ (c.set.lockWindow : Int) < |c.folded| := by
  simp [jumps, isGood_eq]

theorem capture_of_jump (h : c.jumps = true) : c.capture = { c.recordCapture with goodCount := 0 } := if_pos h

theorem capture_of_no_jump (h : c.jumps = false) :
    c.capture = (c.recordCapture.applyTrim c.folded).judgeCapture c.isGood := if_neg (by simp [h])

/-- The frame start after a capture counts in HOLDOVER alone (R15). -/
theorem frameStart_of_captured (hcaptured : c.captured = true) (hst : c.st ≠ .holdover) :
    c.frameStart = c.beginFrame := by
  have hbegin : c.beginFrame.st = c.st := rfl
  simp only [frameStart, countFrame, hbegin, hcaptured, if_true]
  split
  case h_4 h => exact absurd h hst
  all_goals rfl

theorem frameStart_of_held (hcaptured : c.captured = true) (hst : c.st = .holdover)
    (hlimit : ¬c.set.holdoverMax ≤ countUp 1000 1 c.holdoverCount) :
    c.frameStart = { c.beginFrame with holdoverCount := countUp 1000 1 c.holdoverCount } := by
  have hbegin : c.beginFrame.st = .holdover := hst
  simp only [frameStart, countFrame, hbegin, hcaptured, if_true]
  exact if_neg hlimit

end Clock

namespace State

variable {u : State} {source : ClockSource}

theorem exec_edge {dt : Nat} {s : State} {c : Instr} (hreset : s.inReset = false)
    (hrow : (c = .fsync dt ∧ u = s.elapse dt ∧ source = .fsync) ∨
      (c = .frameMark dt ∧ u = s.taken dt ∧ source = .frameMark)) :
    exec c s = .next (u.edgeFrom source) := by
  obtain ⟨rfl, rfl, rfl⟩ | ⟨rfl, rfl, rfl⟩ := hrow <;>
    exact congrArg Host.Outcome.next (outside_of_running dt _ hreset)

theorem edgeFrom_of_not_followed (hend : u.frameEnded = false)
    (h : u.clock.set.source ≠ source ∨ u.clock.st = .free ∨ u.clock.captured = true) :
    u.edgeFrom source = u := by
  unfold edgeFrom
  rw [settleFrame_of_running hend]
  obtain h | h := h
  · exact if_neg h
  · have hedge : u.edge = u := if_pos h
    dsimp only
    rw [hedge, ite_self]

/-- An edge that is the frame's capture (R8). -/
theorem edgeFrom_of_followed (hend : u.frameEnded = false) (hsource : u.clock.set.source = source)
    (hfree : u.clock.st ≠ .free) (hcaptured : u.clock.captured = false) :
    u.edgeFrom source =
      if u.clock.jumps then u.clockCapture.frameStart else u.clockCapture.settleFrame.kick := by
  have hpass : ¬(u.clock.st = .free ∨ u.clock.captured = true) := by simp [hfree, hcaptured]
  unfold edgeFrom
  rw [settleFrame_of_running hend]
  exact (if_pos hsource).trans (if_neg hpass)

/-- The capture moves the clock and what its notice moves of the link. -/
theorem clockCapture_eq (u : State) :
    u.clockCapture = (u.withClock u.clock.capture).withLink u.clockCapture.link := by
  unfold clockCapture noteClock
  split <;> rfl

end State
end Sys2Proof.Machine

section
open Sys2Proof Sys2Proof.Machine

/-- Settles O9: the fold of the phase, the tables of R12, R14 and R15 in one record, and the frame start that
a reached end makes. -/
theorem captureTrimsTheFrame : Obligations.CaptureTrimsTheFrame := by
  unfold Obligations.CaptureTrimsTheFrame
  refine ⟨fun c hphase => ?_, fun dt s u c hreset hrow hend hfree hcaptured hno => ?_⟩
  · unfold Clock.folded
    split
    · exact ⟨by omega, by omega, .inl rfl⟩
    · exact ⟨by omega, by omega, .inr rfl⟩
  intro e good trim newEnd goodCount relock newSt newGood newMiss newHoldover
  have hgood : u.clock.isGood = good := u.clock.isGood_eq
  have hjump : u.clock.jumps = false := by
    rw [← Bool.not_eq_true, Clock.jumps_iff]
    exact hno
  have hcapture : u.clock.capture =
      { u.clock with
        captured := true
        lastE := e
        trim := trim
        frameEnd := newEnd
        st := newSt
        goodCount := newGood
        missCount := newMiss
        holdoverCount := newHoldover } := by
    rw [Clock.capture_of_no_jump hjump, hgood]
    exact Clock.judgeCapture_eq good hfree
  have hexec : exec c s = .next u.clockCapture.settleFrame.kick := by
    obtain ⟨rfl, rfl, hsource⟩ | ⟨rfl, rfl, hsource⟩ := hrow
    · rw [State.exec_edge hreset (.inl ⟨rfl, rfl, rfl⟩),
        State.edgeFrom_of_followed hend hsource hfree hcaptured, hjump]
      rfl
    · rw [State.exec_edge hreset (.inr ⟨rfl, rfl, rfl⟩),
        State.edgeFrom_of_followed hend hsource hfree hcaptured, hjump]
      rfl
  have hended : u.clockCapture.frameEnded = reached newEnd u.now := by
    simp only [State.frameEnded, State.now, State.clockCapture_clock, hcapture]
  refine ⟨_, hexec, ?_, fun hrun => ?_, fun hreached => ?_⟩
  · cases hreach : reached newEnd u.now
    · rw [State.settleFrame_of_running (hended.trans hreach)]
      simp [e]
    · rw [State.settleFrame_of_ended (hended.trans hreach)]
      simp [Clock.frameStart, Clock.beginFrame, e]
  · rw [State.settleFrame_of_running (hended.trans hrun), ← hcapture]
    exact State.kick_eq_withLink u.clockCapture_eq
  · have hclock : u.clockCapture.settleFrame.kick.clock = u.clock.capture.frameStart := by
      rw [State.settleFrame_of_ended (hended.trans hreached)]
      simp
    have hcap : u.clock.capture.captured = true := by simp
    have hst : u.clock.capture.st = newSt := by rw [hcapture]
    have hmax : u.clock.capture.set.holdoverMax = u.clock.set.holdoverMax := by simp
    have hcount : countUp 1000 1 u.clock.capture.holdoverCount = min 1000 (newHoldover + 1) := by
      rw [hcapture]
      rfl
    rw [hclock]
    refine ⟨?_, ?_, ?_, ?_, ?_, fun hne => ?_, fun hhold => ?_⟩
    · simp [Clock.nextFrame]
    · simp [State.now]
    · simp [Clock.frameStart, Clock.beginFrame]
    · simp [Clock.frameStart, Clock.beginFrame]
    · by_cases hhold : newSt = .holdover
      · by_cases hlimit : u.clock.capture.set.holdoverMax ≤ countUp 1000 1 u.clock.capture.holdoverCount
        · rw [Clock.frameStart_of_expiry (hst.trans hhold) hlimit, hcapture]
          rfl
        · rw [Clock.frameStart_of_held hcap (hst.trans hhold) hlimit, hcapture]
          rfl
      · rw [Clock.frameStart_of_captured hcap (by rwa [hst]), hcapture]
        rfl
    · rw [Clock.frameStart_of_captured hcap (by rwa [hst]), hcapture]
      exact ⟨rfl, rfl, rfl⟩
    · intro count
      split
      · next hlimit =>
        rw [Clock.frameStart_of_expiry (hst.trans hhold) (by rwa [hcount, hmax])]
        exact ⟨hcount, rfl, rfl⟩
      · next hlimit =>
        rw [Clock.frameStart_of_held hcap (hst.trans hhold) (by rwa [hcount, hmax])]
        exact ⟨hcount, hst.trans hhold, congrArg Clock.goodCount hcapture⟩

/-- Settles O10: the jump ends the frame at the capture, with the count of R13. -/
theorem badCaptureInAcquireJumps : Obligations.BadCaptureInAcquireJumps := by
  unfold Obligations.BadCaptureInAcquireJumps
  intro dt s u c source hreset hrow hend
  have hexec := State.exec_edge hreset hrow
  refine ⟨fun hsource hst hcaptured hbad => ?_, fun hignored => ?_⟩
  · have hjump : u.clock.jumps = true := Clock.jumps_iff.mpr ⟨hst, hbad⟩
    have hcapture := Clock.capture_of_jump hjump
    rw [State.edgeFrom_of_followed hend hsource (by simp [hst]) hcaptured, hjump] at hexec
    have hclock : u.clockCapture.frameStart.clock = { u.clock.recordCapture with goodCount := 0 }.beginFrame := by
      rw [State.frameStart_clock, State.clockCapture_clock, hcapture]
      exact Clock.frameStart_of_captured rfl (by simp [Clock.recordCapture, hst])
    have hstart : u.clockCapture.frameStart.clock.start = u.now := by
      simp [State.now]
    refine ⟨_, hexec, ?_⟩
    simp only [if_true]
    refine ⟨?_, ?_, ?_, ?_, ?_, ?_, hstart, ?_, ?_⟩ <;> rw [hclock]
    · exact hst
    all_goals rfl
  · rw [hexec, State.edgeFrom_of_not_followed hend hignored]

end

/-! ### Destinations from event to event

Every step of the event queue keeps its entries in their places and maps the destinations of the ACTIVE ones.
`State.Follows R s t` says so, with `R` for what becomes of each destination of an entry. -/

namespace Sys2Proof.Machine

/-- Lists related element by element, in two steps. -/
theorem forall₂_comp {α β γ : Type} {R : α → β → Prop} {S : β → γ → Prop} {xs : List α} {ys : List β}
    {zs : List γ} (h : List.Forall₂ R xs ys) (h' : List.Forall₂ S ys zs) :
    List.Forall₂ (Relation.Comp R S) xs zs := by
  induction h generalizing zs with
  | nil =>
    cases h'
    exact .nil
  | cons hR _ ih =>
    cases h' with
    | cons hS hrest => exact .cons ⟨_, hR, hS⟩ (ih hrest)

/-- The entry with its destinations after them as `R` says; a DONE entry stays as it is. -/
structure Entry.Follows (R : Entry → Destination → Destination → Prop) (e e' : Entry) : Prop where
  tag : e'.tag = e.tag
  frame : e'.frame = e.frame
  dests : e.st = .active → List.Forall₂ (R e) e.dests e'.dests
  done : e.st ≠ .active → e' = e

namespace Entry.Follows

variable {R S : Entry → Destination → Destination → Prop} {e e' e'' : Entry}

theorem refl (hR : ∀ d, R e d d) : Follows R e e where
  tag := rfl
  frame := rfl
  dests _ := List.forall₂_same.mpr fun d _ => hR d
  done _ := rfl

/-- Two steps, the second by the entry's frame, which the first has kept. Destinations that the first leaves in a
DONE entry stay. -/
theorem trans_frame (T : Frame → Destination → Destination → Prop)
    (hT : e.st = .active → e'.st ≠ .active → ∀ d ∈ e'.dests, T e'.frame d d) (h : Follows R e e')
    (h' : Follows (fun e => T e.frame) e' e'') :
    Follows (fun e => Relation.Comp (R e) (T e.frame)) e e'' where
  tag := h'.tag.trans h.tag
  frame := h'.frame.trans h.frame
  dests ha := by
    have hafter : List.Forall₂ (T e'.frame) e'.dests e''.dests := by
      by_cases ha' : e'.st = .active
      · exact h'.dests ha'
      · rw [h'.done ha']
        exact List.forall₂_same.mpr (hT ha ha')
    exact forall₂_comp (h.dests ha) (h.frame ▸ hafter)
  done ha := by
    have hsame := h.done ha
    rw [h'.done (by rw [hsame]; exact ha), hsame]

theorem mono (h : ∀ d d', R e d d' → S e d d') (he : Follows R e e') : Follows S e e' where
  tag := he.tag
  frame := he.frame
  dests ha := (he.dests ha).imp fun _ _ => h _ _
  done := he.done

end Entry.Follows

/-- What becomes of the destinations from `s` to `t`. -/
def State.Follows (R : Entry → Destination → Destination → Prop) (s t : State) : Prop :=
  List.Forall₂ (Entry.Follows R) s.queue t.queue

namespace State.Follows

variable {R S : Entry → Destination → Destination → Prop} {R' : Destination → Destination → Prop}
  {s t u : State}

theorem of_queue_eq (hR : ∀ e d, R e d d) (h : t.queue = s.queue) : Follows R s t := by
  unfold Follows
  rw [h]
  exact List.forall₂_same.mpr fun e _ => .refl (hR e)

theorem trans_frame (T : Frame → Destination → Destination → Prop) (hT : ∀ f d, T f d d) (h : Follows R s t)
    (h' : Follows (fun e => T e.frame) t u) : Follows (fun e => Relation.Comp (R e) (T e.frame)) s u :=
  List.Forall₂.imp (fun _ _ ⟨_, he, he'⟩ => he.trans_frame T (fun _ _ d _ => hT _ d) he') (forall₂_comp h h')

theorem trans (hR' : ∀ d, R' d d) (h : Follows R s t) (h' : Follows (fun _ => R') t u) :
    Follows (fun e => Relation.Comp (R e) R') s u :=
  h.trans_frame (fun _ => R') (fun _ => hR') h'

theorem mono (h : Follows R s t) (hR : ∀ e d d', R e d d' → S e d d') : Follows S s t :=
  List.Forall₂.imp (fun e _ => Entry.Follows.mono (hR e)) h

/-- Two steps in a row, as one relation says both. -/
theorem step (hR : ∀ d, R' d d) (htrans : ∀ d d' d'', R' d d' → R' d' d'' → R' d d'')
    (h : Follows (fun _ => R') s t) (h' : Follows (fun _ => R') t u) : Follows (fun _ => R') s u :=
  (h.trans hR h').mono fun _ d d'' ⟨d', hd, hd'⟩ => htrans d d' d'' hd hd'

theorem exists_entry (h : Follows R s t) {e : Entry} (he : e ∈ s.queue) :
    ∃ e' ∈ t.queue, Entry.Follows R e e' := by
  unfold Follows at h
  generalize s.queue = es at h he
  generalize t.queue = es' at h ⊢
  induction h with
  | nil => cases he
  | cons h _ ih =>
    obtain rfl | he := List.mem_cons.mp he
    · exact ⟨_, List.mem_cons_self, h⟩
    · obtain ⟨e', he', hf⟩ := ih he
      exact ⟨e', List.mem_cons_of_mem _ he', hf⟩

end State.Follows

/-- A destination of an ACTIVE entry, after it. -/
theorem Entry.Follows.exists_dest {R : Entry → Destination → Destination → Prop} {e e' : Entry}
    (h : Follows R e e') (ha : e.st = .active) {d : Destination} (hd : d ∈ e.dests) :
    ∃ d' ∈ e'.dests, R e d d' := by
  have hdests := h.dests ha
  clear h
  generalize e.dests = ds at hdests hd
  generalize e'.dests = ds' at hdests ⊢
  induction hdests with
  | nil => cases hd
  | cons h _ ih =>
    obtain rfl | hd := List.mem_cons.mp hd
    · exact ⟨_, List.mem_cons_self, h⟩
    · obtain ⟨d', hd', hR⟩ := ih hd
      exact ⟨d', List.mem_cons_of_mem _ hd', hR⟩

namespace State

variable {s : State}

theorem follows_mapDests {R : Entry → Destination → Destination → Prop}
    {f : Entry → Destination → Destination} (h : ∀ e d, R e d (f e d)) : Follows R s (s.mapDests f) := by
  unfold Follows
  rw [mapDests_queue, List.forall₂_map_right_iff]
  refine List.forall₂_same.mpr fun e _ => ?_
  by_cases ha : e.st = .active
  · rw [Entry.mapActive_of_active ha]
    refine ⟨rfl, rfl, fun _ => ?_, fun hno => absurd ha hno⟩
    exact List.forall₂_map_right_iff.mpr (List.forall₂_same.mpr fun d _ => h e d)
  · have hsame : e.mapActive f = e := if_neg ha
    rw [hsame]
    exact ⟨rfl, rfl, fun hyes => absurd hyes ha, fun _ => rfl⟩

/-- Finished entries become DONE with their destinations as they are (R151). -/
theorem follows_settle (s : State) : Follows (fun _ => Eq) s s.settle := by
  unfold Follows
  rw [settle_queue, List.forall₂_map_right_iff]
  refine List.forall₂_same.mpr fun e _ => ⟨by simp, by simp, fun _ => by simp, fun ha => ?_⟩
  have hdone : e.st = .done := by
    cases hst : e.st
    · exact absurd hst ha
    · rfl
  exact Entry.close_of_done hdone

theorem follows_mapDests_settle {R : Entry → Destination → Destination → Prop}
    {f : Entry → Destination → Destination} (h : ∀ e d, R e d (f e d)) : Follows R s (s.mapDests f).settle :=
  ((follows_mapDests h).trans (fun _ => rfl) (follows_settle _)).mono fun _ _ _ ⟨_, hR, heq⟩ => heq ▸ hR

/-! #### The end of an event -/

end State

/-- What starts on a line that is free. -/
structure Destination.Starts (s : State) (d d' : Destination) : Prop where
  port : d'.port = d.port
  fate : d' = d ∨ ¬(s.port d.port).heldOff ∧ ∃ l, d.state = .due l ∧ d'.state = .inFlight l

/-- What the end of an event makes of a destination: a DUE one past its latest start is MISSED, and one on a free
line may start (R108, R147). -/
structure Destination.Finishes (s : State) (d d' : Destination) : Prop where
  port : d'.port = d.port
  fate : d' = d ∨ ∃ l, d.state = .due l ∧
    (past l s.now = true ∧ d'.state = .missed ∨
      past l s.now = false ∧ ¬(s.port d.port).heldOff ∧ d'.state = .inFlight l)

namespace Destination

variable {s : State} {d d' d'' : Destination}

theorem Starts.refl (s : State) (d : Destination) : d.Starts s d := ⟨rfl, .inl rfl⟩

theorem Starts.trans (h : d.Starts s d') (h' : d'.Starts s d'') : d.Starts s d'' := by
  obtain rfl | ⟨-, l', hdue', hflight'⟩ := h'.fate
  · exact h
  obtain rfl | ⟨-, l, -, hflight⟩ := h.fate
  · exact h'
  · rw [hflight] at hdue'
    cases hdue'

theorem Finishes.refl (s : State) (d : Destination) : d.Finishes s d := ⟨rfl, .inl rfl⟩

/-- What is not DUE stays as it is. -/
theorem Finishes.eq_of_not_due (h : d.Finishes s d') (hdue : ∀ l, d.state ≠ .due l) : d' = d := by
  obtain rfl | ⟨l, hl, -⟩ := h.fate
  · rfl
  · exact absurd hl (hdue l)

/-- On a line that is taken or held off a DUE destination waits until its latest start is past. -/
theorem Finishes.eq_of_heldOff (h : d.Finishes s d') {l : Instant} (hl : d.state = .due l)
    (hheld : (s.port d.port).heldOff) (hlatest : past l s.now = false) : d' = d := by
  obtain rfl | ⟨l', hl', ⟨hpast, -⟩ | ⟨-, hfree, -⟩⟩ := h.fate
  · rfl
  · rw [hl] at hl'
    cases hl'
    rw [hlatest] at hpast
    cases hpast
  · exact absurd hheld hfree

theorem startDestination_starts (e : Entry) (hfree : ¬(s.port d.port).heldOff) (u : State) :
    d.Starts s (State.startDestination e u d) := by
  unfold State.startDestination
  split
  · next l hl => exact ⟨rfl, .inr ⟨hfree, l, hl, rfl⟩⟩
  · exact .refl s d

end Destination

namespace State

variable {s : State}

theorem heldOff_expireAll (s : State) (p : Port) : (s.expireAll.port p).heldOff ↔ (s.port p).heldOff := by
  rw [expireAll_port]
  exact heldOff_expirePort s p

theorem follows_grant {v : State} (p : Port) (hheld : (v.port p).heldOff ↔ (s.port p).heldOff) :
    Follows (fun _ => Destination.Starts s) v (v.grant p) := by
  by_cases hp : (v.port p).heldOff
  · exact .of_queue_eq (fun _ => Destination.Starts.refl s) (by rw [grant_of_heldOff hp])
  cases hc : v.chooseClaim p with
  | none => exact .of_queue_eq (fun _ => Destination.Starts.refl s) (by rw [grant_of_no_choice hc])
  | some c =>
    rw [grant_of_choice hp hc]
    by_cases hevent : ∃ tag, c = .event tag
    · obtain ⟨tag, rfl⟩ := hevent
      simp only [startClaim, startEvent]
      split
      · have hlaunch (u : State) (k : Packet) (h : Follows (fun _ => Destination.Starts s) v u) :
            Follows (fun _ => Destination.Starts s) v (u.launch p k) := h
        refine hlaunch _ _ (follows_mapDests fun e d => ?_)
        split
        · next hd => exact Destination.startDestination_starts e (by rw [hd.2, ← hheld]; exact hp) v
        · exact .refl s d
      · exact .of_queue_eq (fun _ => Destination.Starts.refl s) rfl
    · exact .of_queue_eq (fun _ => Destination.Starts.refl s)
        (startClaim_queue (fun tag htag => hevent ⟨tag, htag⟩) v)

/-- The destinations at the end of an event. -/
theorem follows_finishLines (s : State) : Follows (fun _ => Destination.Finishes s) s s.finishLines := by
  have hexpire : Follows (fun _ d d' => d' = d ∧ (∀ l, d.state = .due l → past l s.now = false) ∨
      ∃ l, d.state = .due l ∧ past l s.now = true ∧ d' = { d with state := .missed }) s s.expireAll := by
    let u := ((s.expirePort .vision).expirePort .sound).expirePort .cab
    have hqueue : u.queue = s.queue := by simp [u]
    have hnow : u.now = s.now := by simp [u, now]
    have hevents := follows_mapDests_settle (s := u) (f := fun _ => Destination.expire u.now)
      (R := fun _ d d' => d' = d ∧ (∀ l, d.state = .due l → past l s.now = false) ∨
        ∃ l, d.state = .due l ∧ past l s.now = true ∧ d' = { d with state := .missed }) fun _ d => by
          rw [hnow]
          unfold Destination.expire
          split
          · next l hl =>
            split
            · next hpast => exact .inr ⟨l, hl, hpast, rfl⟩
            · next hpast =>
              refine .inl ⟨rfl, fun l' hl' => ?_⟩
              rw [hl] at hl'
              cases hl'
              exact Bool.not_eq_true _ ▸ hpast
          · next hno => exact .inl ⟨rfl, fun l hl => absurd hl (hno l)⟩
    unfold Follows at hevents ⊢
    rwa [hqueue] at hevents
  have hgrant : Follows (fun _ => Destination.Starts s) s.expireAll s.finishLines := by
    have htrans (d d' d'' : Destination) (h : d.Starts s d') (h' : d'.Starts s d'') : d.Starts s d'' := h.trans h'
    refine ((follows_grant .vision (heldOff_expireAll s _)).step (Destination.Starts.refl s) htrans
      (follows_grant .sound ?_)).step (Destination.Starts.refl s) htrans (follows_grant .cab ?_)
    · rw [grant_port_other (by simp)]
      exact heldOff_expireAll s _
    · rw [grant_port_other (by simp), grant_port_other (by simp)]
      exact heldOff_expireAll s _
  refine (hexpire.trans (Destination.Starts.refl s) hgrant).mono fun _ d d'' ⟨d', h, h'⟩ => ?_
  obtain ⟨rfl, hlatest⟩ | ⟨l, hl, hpast, rfl⟩ := h
  · obtain rfl | ⟨hfree, l, hl, hflight⟩ := h'.fate
    · exact .refl s _
    · exact ⟨h'.port, .inr ⟨l, hl, .inr ⟨hlatest l hl, hfree, hflight⟩⟩⟩
  · obtain rfl | ⟨-, l', hl', -⟩ := h'.fate
    · exact ⟨rfl, .inr ⟨l, hl, .inl ⟨hpast, rfl⟩⟩⟩
    · cases hl'

end State
end Sys2Proof.Machine

/-! ### Payload beats and trailers (R103, R108, R111, R149) -/

namespace Sys2Proof.Machine
namespace State

variable {s : State} {p : Port}

@[simp] theorem settle_port (s : State) (p : Port) : s.settle.port p = s.port p := port_of_ports_eq (by simp) p

@[simp] theorem kick_port (s : State) (p : Port) : s.kick.port p = s.port p := port_of_ports_eq (by simp) p

/-- The packet's owner is told and the line is free. -/
theorem completePacket_port {fl : InFlight} (h : (s.port p).inFlight = some fl) :
    (s.completePacket p).port p =
      { s.port p with
        inFlight := none
        echo :=
          if fl.packet.kind = .echo then EchoRecord.markSent fl.packet.echoNumber s.now (s.port p).echo
          else (s.port p).echo } := by
  unfold completePacket
  rw [h]
  dsimp only
  split
  · next hkind => simp [hkind]
  · next hkind =>
    simp only [hkind]
    split <;> simp [mapDest]
  all_goals
    next hkind => simp [hkind]

/-- The destinations of the entry with this tag on port `p`, each through `f`. -/
abbrev mapped (tag : Byte) (p : Port) (f : Destination → Destination) (e : Entry) (d d' : Destination) : Prop :=
  d' = if e.tag = tag ∧ d.port = p then f d else d

theorem follows_mapDest (tag : Byte) (p : Port) (f : Destination → Destination) (s : State) :
    Follows (mapped tag p f) s (s.mapDest tag p f) :=
  follows_mapDests fun _ _ => rfl

theorem follows_mapDest_settle (tag : Byte) (p : Port) (f : Destination → Destination) (s : State) :
    Follows (mapped tag p f) s (s.mapDest tag p f).settle :=
  follows_mapDests_settle fun _ _ => rfl

/-- One destination through `f` and then through the end of the event. -/
theorem exists_mapped_finished {tag : Byte} {f : Destination → Destination} {t u : State}
    (h : Follows (mapped tag p f) s t) (hu : u.queue = t.finishLines.queue) {e : Entry} (he : e ∈ s.queue)
    (ha : e.st = .active) (htag : e.tag = tag) {d : Destination} (hd : d ∈ e.dests) (hp : d.port = p) :
    ∃ e' ∈ u.queue, e'.tag = tag ∧ e'.frame = e.frame ∧ ∃ d' ∈ e'.dests, (f d).Finishes t d' := by
  have hall := h.trans (Destination.Finishes.refl t) (follows_finishLines t)
  obtain ⟨e', he', hf⟩ := hall.exists_entry he
  obtain ⟨d', hd', d₁, rfl, hfin⟩ := hf.exists_dest ha hd
  refine ⟨e', hu ▸ he', hf.tag.trans htag, hf.frame, d', hd', ?_⟩
  rwa [if_pos ⟨htag, hp⟩] at hfin

theorem completePacket_of_event {fl : InFlight} {tag : Byte} (h : (s.port p).inFlight = some fl)
    (hkind : fl.packet.kind = .event) (htag : fl.packet.eventTag = some tag) :
    s.completePacket p =
      ((s.withPort p { s.port p with inFlight := none }).mapDest tag p Destination.send).settle := by
  simp only [completePacket, h, hkind, htag]

end State
end Sys2Proof.Machine

section
open Sys2Proof Sys2Proof.Machine

/-- Settles O30: the beat counts its slots, and the trailer's end tells the packet's owner. -/
theorem beatsAndTrailersEnd : Obligations.BeatsAndTrailersEnd := by
  unfold Obligations.BeatsAndTrailersEnd
  refine ⟨fun s p t fl hcomes hfl => ?_, fun s p at_ fl hcomes hfl => ?_⟩
  · refine congrArg Host.Outcome.next ((State.ownRow_of_comes hcomes).trans ?_)
    have hmap : ((s.atInstant t).port p).inFlight.map (InFlight.addBeat ((s.atInstant t).port p).cfg.width) =
        some (fl.addBeat (s.port p).cfg.width) := congrArg (Option.map _) hfl
    exact congrArg (fun fl => (s.atInstant t).withPort p { s.port p with inFlight := fl }) hmap
  · let u := s.atInstant at_
    have hufl : (u.port p).inFlight = some fl := hfl
    have hport := State.completePacket_port hufl
    have hnow : (u.completePacket p).now = at_ := by simp [State.now, u, State.atInstant]
    have hexec : exec (.packetComplete p) s = .next ((u.completePacket p).finishLines).kick :=
      congrArg Host.Outcome.next (State.ownRow_of_comes hcomes)
    refine ⟨_, hexec, by simp [u, State.atInstant], by simp [u, State.atInstant], by simp [u, State.atInstant],
      by simp [u, State.atInstant], by simp [u, State.atInstant], by simp [u, State.atInstant],
      fun next hnext => ?_, fun o hkind ho hnumber => ?_, fun tag e d l hkind htag he ha hetag hd hp hl => ?_⟩
    · rw [State.kick_port] at hnext
      obtain hsame | ⟨-, k, hk⟩ := (u.completePacket p).finishLines_inFlight p
      · rw [hsame, hport] at hnext
        cases hnext
      · rw [hk, hnow] at hnext
        cases hnext
        exact ⟨rfl, rfl⟩
    · have huo : (u.port p).echo.outstanding = some o := ho
      rw [State.kick_port, ((u.completePacket p).finishLines_steady p).echo, hport]
      simp only [hkind, if_true, State.EchoRecord.markSent, huo, hnumber]
      rfl
    · have hmapped := State.follows_mapDest_settle tag p Destination.send
        (u.withPort p { u.port p with inFlight := none })
      rw [← State.completePacket_of_event hufl hkind htag] at hmapped
      obtain ⟨e', he', hetag', -, d', hd', hfin⟩ := State.exists_mapped_finished hmapped
        (u := ((u.completePacket p).finishLines).kick) (by simp) he ha hetag hd hp
      have hsend : d.send = { d with state := .sent } := by simp [Destination.send, hl]
      rw [hsend] at hfin
      rw [hfin.eq_of_not_due (by simp)] at hd'
      exact ⟨e', he', hetag', _, hd', hp, rfl⟩

end

/-! ### Skips and CUE packets (R127 to R131, R137, R138) -/

namespace Sys2Proof.Machine
namespace State

variable {s : State} {p q : Port}

/-! #### Lines on which nothing is skipped -/

/-- A scheduler of the port can neither skip nor start: its line is taken or held off, and its latest start is
ahead. -/
def stalled (p : Port) (s : State) : Prop :=
  ∀ sc, (s.port p).sched = some sc → (s.port p).heldOff ∧ past sc.latest s.now = false

theorem stalled_congr {t : State} (hport : t.port p = s.port p) (hnow : t.now = s.now) (h : s.stalled p) :
    t.stalled p := by
  unfold stalled
  rwa [hport, hnow]

theorem stalled_of_none (h : (s.port p).sched = none) : s.stalled p := fun sc hsc => by
  rw [h] at hsc
  cases hsc

theorem skipPast_of_stalled (n : Nat) (h : s.stalled p) : s.skipPast p n = s :=
  skipPast_of_not_past n fun sc hsc => (h sc hsc).2

theorem expirePort_of_stalled (h : ∀ q, s.stalled q) (p : Port) :
    Notes [] s (s.expirePort p) ∧ ∀ q, (s.expirePort p).stalled q := by
  unfold expirePort
  rw [skipPast_of_stalled _ (h p)]
  refine ⟨.of_link_eq rfl, fun q => ?_⟩
  by_cases hq : q = p
  · subst hq
    intro sc hsc
    rw [expireConts_port, if_pos rfl] at hsc ⊢
    exact h q sc hsc
  · exact stalled_congr (s := s) (by rw [expireConts_port, if_neg hq]) rfl (h q)

theorem startClaim_sched_of_none (c : Claim) (h : (s.port p).sched = none) :
    ((s.startClaim p c).port p).sched = none := by
  cases c
  case continuation k => simpa [startClaim, startContinuation] using h
  case event tag =>
    unfold startClaim startEvent
    dsimp only
    split
    · rw [launch_port_same]
      exact h
    · exact h
  case cue => simp [startClaim, startCue, h]
  case neutral =>
    unfold startClaim startNeutral
    dsimp only
    split
    · simpa using h
    · exact h
  case echo =>
    unfold startClaim startEcho
    dsimp only
    split
    · simpa using h
    · exact h

theorem startClaim_link_of_none (c : Claim) (h : (s.port p).sched = none) :
    (s.startClaim p c).link = s.link := by
  by_cases hc : c = .cue
  · subst hc
    simp [startClaim, startCue, h]
  · exact s.startClaim_link p hc

theorem grant_of_stalled (h : ∀ q, s.stalled q) (p : Port) :
    Notes [] s (s.grant p) ∧ ∀ q, (s.grant p).stalled q := by
  have hother (q : Port) (hq : q ≠ p) : (s.grant p).stalled q :=
    stalled_congr (grant_port_other hq s) (by simp [now]) (h q)
  cases hsched : (s.port p).sched with
  | some sc =>
    rw [grant_of_heldOff (h p sc hsched).1]
    exact ⟨.refl _ s, h⟩
  | none =>
    have hgrant : Notes [] s (s.grant p) ∧ ((s.grant p).port p).sched = none := by
      unfold grant
      split
      · split
        · next c _ =>
          exact ⟨.of_link_eq (startClaim_link_of_none c hsched), startClaim_sched_of_none c hsched⟩
        · exact ⟨.refl _ s, hsched⟩
      · exact ⟨.refl _ s, hsched⟩
    refine ⟨hgrant.1, fun q => ?_⟩
    by_cases hq : q = p
    · rw [hq]
      exact stalled_of_none hgrant.2
    · exact hother q hq

/-- Where every scheduler is stalled the end of an event places no LATE notice. -/
theorem notes_finishLines_of_stalled (h : ∀ q, s.stalled q) : Notes [.outcomes] s s.finishLines := by
  obtain ⟨hv, hv'⟩ := expirePort_of_stalled h .vision
  obtain ⟨hs, hs'⟩ := expirePort_of_stalled hv' .sound
  obtain ⟨hc, hc'⟩ := expirePort_of_stalled hs' .cab
  have hevents (u : State) : Notes [.outcomes] u u.expireEvents := notes_mapDests_settle u _
  have hlast (u : State) (hu : ∀ q, u.stalled q) (q : Port) : u.expireEvents.stalled q :=
    stalled_congr (port_of_ports_eq (by simp) q) (by simp [now]) (hu q)
  have hall : ∀ q, s.expireAll.stalled q := hlast _ hc'
  have hexpire : Notes [.outcomes] s s.expireAll :=
    ((hv.trans (hs.trans hc)).mono (by simp)).trans (hevents _)
  obtain ⟨gv, gv'⟩ := grant_of_stalled hall .vision
  obtain ⟨gs, gs'⟩ := grant_of_stalled gv' .sound
  obtain ⟨gc, -⟩ := grant_of_stalled gs' .cab
  exact hexpire.trans ((gv.trans (gs.trans gc)).mono (by simp))

/-! #### CONTINUE packets that do not wait -/

theorem startClaim_conts_of_nil (c : Claim) (h : (s.port p).conts = []) :
    ((s.startClaim p c).port p).conts = [] ∧
      ((s.startClaim p c).port p).partialCount = (s.port p).partialCount := by
  cases c
  case continuation k => simp [startClaim, startContinuation, h]
  case event tag =>
    unfold startClaim startEvent
    dsimp only
    split
    · rw [launch_port_same]
      exact ⟨h, rfl⟩
    · exact ⟨h, rfl⟩
  case cue =>
    unfold startClaim startCue
    dsimp only
    split
    · exact ⟨h, rfl⟩
    · next sc _ =>
      obtain ⟨sched, count, hport⟩ := skipPast_port_same (p := p) Config.frameFuel _
      rw [hport, withPort_port_same, launch_port_same]
      exact ⟨h, rfl⟩
  case neutral =>
    unfold startClaim startNeutral
    dsimp only
    split <;> simp [h]
  case echo =>
    unfold startClaim startEcho
    dsimp only
    split <;> simp [h]

theorem finishLines_conts_of_nil (h : (s.port p).conts = []) :
    (s.finishLines.port p).conts = [] ∧
      (s.finishLines.port p).partialCount = min 65535 (s.port p).partialCount := by
  obtain ⟨v, hv, ht⟩ := s.finishLines_at p
  have hport : (v.port p).conts = [] ∧ (v.port p).partialCount = min 65535 (s.port p).partialCount := by
    obtain ⟨sched, skips, hskip⟩ := skipPast_port_same (p := p) Config.frameFuel s
    rw [hv.port]
    unfold expirePort
    rw [expireConts_port, if_pos rfl, hskip]
    simp [h, countUp]
  rw [ht.port, ← hport.2]
  unfold grant
  split
  · split
    · exact startClaim_conts_of_nil _ hport.1
    · exact ⟨hport.1, rfl⟩
  · exact ⟨hport.1, rfl⟩

/-! #### The start of a CUE packet -/

/-- A CUE packet that alone is due on a free line starts with what its build leaves in the routes (R64, R128). -/
theorem finishLines_of_cue {sc : Schedule} (hfree : ¬(s.port p).heldOff) (hsched : (s.port p).sched = some sc)
    (hdue : sc.due = true) (hlatest : past sc.latest s.now = false) (hconts : (s.port p).conts = [])
    (hquiet : s.expireAll.noEventDue p) :
    ∃ routes : Vector Route 64,
      (s.finishLines.port p).inFlight = some ⟨s.cuePacket p sc routes, s.now, 0⟩ ∧
      (∀ i : Fin 64, (s.routes[i]).port = some p →
        routes[i] = (buildRoutes s p (s.clock.presentationOr sc.next s.now))[i]) ∧
      (∀ i : Fin 64, (s.routes[i]).port = some p → s.finishLines.routes[i] = routes[i]) ∧
      ∀ i : Fin 64, (routes[i]).port = (s.routes[i]).port := by
  obtain ⟨v, hv, ht⟩ := s.finishLines_at p
  have hpast : ∀ sc', (s.port p).sched = some sc' → past sc'.latest s.now = false := fun sc' h => by
    rw [hsched] at h
    cases h
    exact hlatest
  have hb := hv.port_of_not_past hpast (by simp [hconts])
  have hvsched : (v.port p).sched = some sc := by rw [hb]; exact hsched
  have hclaims : v.claims p = [(sc.latest, .cue)] := by
    rw [claims_eq, flatMap_eventClaim_of_noEventDue (hv.quiet hquiet), BoardPort.cueClaim, hb]
    simp [hconts, hsched, hdue]
  have hgrant : v.grant p = v.startCue p :=
    grant_of_choice (hv.not_heldOff hfree) (chooseClaim_of_one_claim hclaims)
  have hroute (i : Fin 64) (hi : (s.routes[i]).port = some p) :
      (buildRoutes v p (v.clock.presentationOr sc.next v.now))[i] =
        (buildRoutes s p (s.clock.presentationOr sc.next s.now))[i] := by
    rw [buildRoutes_get, buildRoutes_get, hv.routes i hi, hv.channels, hv.gens, hv.ctrl, hv.clock, hv.now, hb]
  refine ⟨buildRoutes v p (v.clock.presentationOr sc.next v.now), ?_, hroute, fun i hi => ?_, fun i => ?_⟩
  · rw [ht.port, hgrant]
    simp only [startCue, hvsched, skipPast_inFlight, withPort_port_same, launch_port_same]
    have hcue (r : Vector Route 64) : v.cuePacket p sc r = s.cuePacket p sc r := by
      simp only [cuePacket, degraded, ramping, hv.clock, hv.ctrl, hb]
    have hnow : (v.withRoutes (buildRoutes v p (v.clock.presentationOr sc.next v.now))).now = s.now := hv.now
    rw [hcue, hnow]
  · rw [ht.routes i hi, hgrant]
    simp [startCue, hvsched]
  · have hport : (v.routes[i]).port = (s.routes[i]).port := congrArg (fun f => (f i).1) hv.claimed
    rw [buildRoutes_get, ← hport]
    split <;> rfl

/-- The value of a slot reads the routes of its port alone. -/
theorem slotValue_congr {r r' : Vector Route 64} (value : Route → Cue) (slot : Nat)
    (hport : ∀ i : Fin 64, (r'[i]).port = (r[i]).port) (h : ∀ i : Fin 64, (r[i]).port = some p → r'[i] = r[i]) :
    slotValue r'.toList value p slot = slotValue r.toList value p slot := by
  have hpairs : List.Forall₂ (fun x y : Route => y.port = x.port ∧ (x.port = some p → y = x)) r.toList r'.toList := by
    refine List.forall₂_iff_get.mpr ⟨by simp, fun i hi hi' => ?_⟩
    have hlt : i < 64 := by simpa using hi
    simpa using And.intro (hport ⟨i, hlt⟩) (h ⟨i, hlt⟩)
  unfold slotValue
  generalize r.toList = xs at hpairs
  generalize r'.toList = ys at hpairs
  induction hpairs with
  | nil => rfl
  | @cons x y xs ys hxy _ ih =>
    by_cases hx : x.port = some p
    · rw [hxy.2 hx]
      rw [List.find?_cons, List.find?_cons]
      cases (x.port == some p && x.slot == slot)
      · exact ih
      · rfl
    · have hy : y.port ≠ some p := by rw [hxy.1]; exact hx
      rw [List.find?_cons_of_neg (by simpa using fun h' => absurd h' hy),
        List.find?_cons_of_neg (by simpa using fun h' => absurd h' hx)]
      exact ih

end State
end Sys2Proof.Machine

section
open Sys2Proof Sys2Proof.Machine

/-- Settles O37: one skip on a line that is not free, and the one CONTINUE packet that its latest start ends. -/
theorem lateFramesAreSkipped : Obligations.LateFramesAreSkipped := by
  unfold Obligations.LateFramesAreSkipped
  refine ⟨fun s p sc hcomes hsched hheld => ?_, fun s p k l hcomes hconts hlatest => ?_⟩
  · intro b presentation latest hahead
    let u := s.atInstant sc.latest
    let v := u.skipOne p sc
    have husched : (u.port p).sched = some sc := hsched
    have hvport : v.port p = (u.port p).skipFrame u.clock sc := by rw [State.skipOne_port, if_pos rfl]
    have hvclock : v.clock = u.clock := by simp [v]
    have hvnow : v.now = sc.latest := congrArg Clock.cueTime hvclock
    have hvsched : (v.port p).sched = some ((u.port p).schedule u.clock (sc.next + 1) false) := by
      rw [hvport]
      rfl
    have hvheld : (v.port p).heldOff := by
      rw [hvport]
      exact hheld
    have hvpast : ∀ sc', (v.port p).sched = some sc' → past sc'.latest v.now = false := fun sc' hsc' => by
      rw [hvsched] at hsc'
      cases hsc'
      rw [hvnow]
      exact hahead
    have htake : u.takeOwn (.skip p) = v.finishLines.kick := by
      have hskip : v.skipPast p Config.frameFuel = v := State.skipPast_of_not_past _ hvpast
      simp only [State.takeOwn, State.reachSkip, husched]
      rw [hskip]
    have hexec : exec (.skip p) s = .next v.finishLines.kick :=
      congrArg Host.Outcome.next ((State.ownRow_of_comes hcomes).trans htake)
    obtain ⟨hsched', hcount⟩ := State.finishLines_sched_of_heldOff hvheld hvpast
    refine ⟨_, hexec, ?_, ⟨((u.port p).schedule u.clock (sc.next + 1) false).due, ?_⟩, ?_, ?_, by simp [v, u, State.atInstant], by simp [v, u, State.atInstant],
      by simp [v, u, State.atInstant], by simp [v, u, State.atInstant], fun hlimit hbusy hothers => ?_⟩
    · rw [State.kick_port, hcount, hvport]
      rfl
    · rw [State.kick_port, hsched', hvsched]
      rfl
    · rw [State.kick_port, State.finishLines_port_of_heldOff hvheld, State.expirePort_inFlight, hvport]
      rfl
    · simp [hvclock, u, State.atInstant]
    · have hubusy : (u.withPort p ((u.port p).skipFrame u.clock sc)).link.tx ≠ .idle := hbusy
      have hv : v = (u.withPort p ((u.port p).skipFrame u.clock sc)).placeLate
          ⟨p, sc.next, min 255 (b.skipCount + 1), b.latCue, b.cfg.guard, s.clock.current⟩ := if_pos hlimit
      have hvbusy : v.link.tx ≠ .idle := (u.notes_skipOne p sc).busy hbusy
      have hstalled (q : Port) : v.stalled q := by
        by_cases hq : q = p
        · subst hq
          exact fun sc' hsc' => ⟨hvheld, hvpast sc' hsc'⟩
        · refine State.stalled_of_none ?_
          rw [State.skipOne_port, if_neg hq]
          exact hothers q hq
      have hfinish := State.notes_finishLines_of_stalled hstalled
      rw [(State.notes_kick _ []).late (hfinish.busy hvbusy), hfinish.late hvbusy, hv,
        State.placeLate_of_busy _ hubusy]
      rfl
  · let u := s.atInstant l
    have huconts : (u.port p).conts = [k] := hconts
    have hreach : reached (k.latest.getD u.now) u.now = true := by
      rw [hlatest]
      simp [reached, u, State.atInstant, State.now]
    let v := u.withPort p
      { u.port p with conts := [], partialCount := countUp 65535 1 (u.port p).partialCount }
    have htake : u.takeOwn (.partialEnd p) = v.finishLines.kick := by
      simp only [State.takeOwn, State.reachPartial, huconts, List.filter_cons, hreach, Bool.not_true]
      rfl
    have hexec : exec (.partialEnd p) s = .next v.finishLines.kick :=
      congrArg Host.Outcome.next ((State.ownRow_of_comes hcomes).trans htake)
    have hvport : v.port p =
        { u.port p with conts := [], partialCount := countUp 65535 1 (u.port p).partialCount } :=
      State.withPort_port_same ..
    obtain ⟨hnil, hcount⟩ := State.finishLines_conts_of_nil (s := v) (p := p) (by rw [hvport])
    refine ⟨_, hexec, ?_, ?_, by simp [v, u, State.atInstant], by simp [v, u, State.atInstant],
      by simp [v, u, State.atInstant], by simp [v, u, State.atInstant], by simp [v, u, State.atInstant]⟩
    · rw [State.kick_port, hnil]
    · rw [State.kick_port, hcount, hvport]
      simp only [countUp, ← min_assoc, min_self]
      rfl

/-- Settles O36: the packet waits on a line that is not free, and starts on a free one with its build. -/
theorem releaseStartsTheCuePacket : Obligations.ReleaseStartsTheCuePacket := by
  unfold Obligations.ReleaseStartsTheCuePacket
  intro s p sc hcomes hsched hlatest b u presentation
  let v := u.withPort p { u.port p with sched := some { sc with due := true } }
  have husched : (u.port p).sched = some sc := hsched
  have htake : u.takeOwn (.release p) = v.finishLines.kick := by
    simp only [State.takeOwn, State.reachRelease, husched]
    rfl
  have hexec : exec (.release p) s = .next v.finishLines.kick :=
    congrArg Host.Outcome.next ((State.ownRow_of_comes hcomes).trans htake)
  have hvport : v.port p = { u.port p with sched := some { sc with due := true } } :=
    State.withPort_port_same ..
  have hvsched : (v.port p).sched = some { sc with due := true } := by rw [hvport]
  refine ⟨_, hexec, by simp [v], by simp [v, u, State.atInstant], by simp [v, u, State.atInstant],
    by simp [v, u, State.atInstant], by simp [v, u, State.atInstant], by simp [v, u, State.atInstant],
    fun hheld => ?_, fun hflight hwait habort hconts hqueue => ?_⟩
  · have hvheld : (v.port p).heldOff := by
      rw [hvport]
      exact hheld
    have hpast : ∀ sc', (v.port p).sched = some sc' → past sc'.latest v.now = false := fun sc' hsc' => by
      rw [hvsched] at hsc'
      cases hsc'
      exact hlatest
    rw [State.kick_port, (State.finishLines_sched_of_heldOff hvheld hpast).1, hvsched,
      State.finishLines_port_of_heldOff hvheld, State.expirePort_inFlight, hvport]
    exact ⟨rfl, rfl⟩
  · have hfree : ¬(v.port p).heldOff := by
      rw [hvport, State.not_heldOff_iff]
      exact ⟨hflight, hwait, habort⟩
    obtain ⟨routes, hin, hbuilt, hkept, hports⟩ := State.finishLines_of_cue hfree hvsched rfl hlatest
      (by rw [hvport]; exact hconts) (State.noEventDue_expireAll_of_empty hqueue)
    have hclaimed (i : Fin 64) : (v.finishLines.routes[i]).port = (v.routes[i]).port :=
      congrArg (fun f => (f i).1) v.claimed_finishLines
    have hkick : v.finishLines.kick.routes = v.finishLines.routes := by simp
    refine ⟨⟨v.cuePacket p { sc with due := true } routes, by rw [State.kick_port]; exact hin, rfl, rfl, ?_, ?_, rfl,
      rfl, ?_, ?_⟩, fun i hi hslot => ?_⟩
    · simp only [State.cuePacket, hvport]
      rfl
    · simp only [State.cuePacket, hvport]
      rfl
    · simp only [State.cuePacket, State.ramping]
      rw [Bool.decide_or]
      rfl
    · have hvalue (slot : Nat) : slotValue routes.toList (·.last) p slot =
          slotValue v.finishLines.kick.routes.toList (·.last) p slot := by
        refine (State.slotValue_congr _ slot (fun i => ?_) fun i hi => ?_).symm
        · rw [hports i, hkick]
          exact hclaimed i
        · rw [hports i] at hi
          rw [hkick]
          exact hkept i hi
      simp only [State.cuePacket, cueValues, sendOrder, List.map_map, hvport]
      exact List.map_congr_left fun j _ => hvalue _
    · have hfeeds : (s.routes[i]).feeds p b.cfg.slots = true := by
        simp only [Route.feeds, hi, decide_true, Bool.true_and]
        exact decide_eq_true hslot
      rw [hkick, hkept i hi, hbuilt i hi, State.buildRoutes_get, hvport]
      exact if_pos hfeeds

end

/-! ### The EVENT packet of a queue of one (R146 to R149) -/

namespace Sys2Proof.Machine
/-- Two bytes side by side in one word (11.3). -/
theorem ofNat_bytes_eq_append (a b : Byte) : BitVec.ofNat 16 (a.toNat * 256 + b.toNat) = a ++ b := by
  refine BitVec.eq_of_toNat_eq ?_
  rw [BitVec.toNat_append, BitVec.toNat_ofNat, ← Nat.shiftLeft_add_eq_or_of_lt b.isLt, Nat.shiftLeft_eq]
  have ha := a.isLt
  have hb := b.isLt
  omega

namespace State

variable {s : State} {p : Port}

theorem entry_spec {tag : Byte} {e : Entry} (h : s.entry tag = some e) : e ∈ s.queue ∧ e.tag = tag :=
  ⟨List.mem_of_find?_eq_some h, by simpa using List.find?_some h⟩

/-- An entry with a destination DUE stays ACTIVE. -/
theorem close_of_pending {e : Entry} {d : Destination} (hd : d ∈ e.dests) (hpending : d.pending = true) :
    e.close = e := by
  have hno : e.finished = false := by
    rw [← Bool.not_eq_true, Entry.finished_iff]
    rintro ⟨-, hall⟩
    rw [List.any_eq_true.mpr ⟨d, hd, hpending⟩] at hall
    cases hall
  simp [Entry.close, hno]

section
variable {e : Entry} {d : Destination} {latest : Instant} (hqueue : s.queue = [e]) (ha : e.st = .active)
  (hdests : e.dests = [d]) (hdue : d.state = .due latest) (hlatest : past latest s.now = false)
include hqueue ha hdests hdue hlatest

theorem expireAll_queue_of_due : s.expireAll.queue = [e] := by
  have hexpire : d.expire s.now = d := by simp [Destination.expire, hdue, hlatest]
  have hmap : (e.mapActive fun _ => Destination.expire s.now) = e := by
    rw [Entry.mapActive_of_active ha, hdests]
    simp only [List.map_cons, List.map_nil, hexpire]
    rw [← hdests]
  rw [expireAll_queue, hqueue, List.map_singleton, hmap,
    close_of_pending (d := d) (by simp [hdests]) (by simp [Destination.pending, hdue])]

/-- An EVENT packet that alone is due on a free line starts (R148). -/
theorem finishLines_of_event (hp : d.port = p) (hfree : ¬(s.port p).heldOff) (hconts : (s.port p).conts = [])
    (hsched : s.notDue p) :
    (s.finishLines.port p).inFlight = some ⟨d.packet.getD (s.eventPacket e latest), s.now, 0⟩ ∧
      s.finishLines.queue = [{ e with dests := [startDestination e s d] }] := by
  obtain ⟨v, hv, ht⟩ := s.finishLines_at p
  have hexpired := expireAll_queue_of_due hqueue ha hdests hdue hlatest
  have hclaim (q : Port) : eventClaim q e = if d.port = q then [(latest, .event e.tag)] else [] := by
    simp only [eventClaim, ha, if_true, hdests, List.filterMap_cons, hdue, List.filterMap_nil]
    split <;> split <;> simp_all
  have hothers (q : Port) (hq : q ≠ p) : s.expireAll.noEventDue q := by
    intro x hx
    rw [hexpired, List.mem_singleton] at hx
    rw [hx, hclaim, if_neg (by rw [hp]; exact hq.symm)]
  have hvqueue : v.queue = [e] := (hv.queue hothers).trans hexpired
  have hb := hv.port_of_not_past (fun sc hsc => (hsched sc hsc).2) (by simp [hconts])
  have hclaims : v.claims p = [(latest, .event e.tag)] := by
    have hsched' : v.notDue p := fun sc hsc => by
      rw [hv.now]
      exact hsched sc (by rwa [hb] at hsc)
    rw [claims_eq, cueClaim_of_notDue hsched', hvqueue, hb]
    simp [hconts, hclaim, hp]
  have hpacket : v.eventPacket e latest = s.eventPacket e latest := by
    simp only [eventPacket, degraded, ramping, hv.clock, hv.ctrl]
  have hstart : startDestination e v d = startDestination e s d := by
    simp only [startDestination, hdue, hpacket]
  have hdueEvent : v.dueEvent p e.tag = some (d.packet.getD (s.eventPacket e latest)) := by
    simp [dueEvent, hvqueue, ha, hdests, hdue, hp, hpacket]
  have hgrant : v.grant p = v.startEvent p e.tag :=
    grant_of_choice (hv.not_heldOff hfree) (chooseClaim_of_one_claim hclaims)
  rw [ht.port, ht.queue hothers, hgrant]
  simp only [startEvent, hdueEvent, launch_port_same, launch_frame, mapDests_queue, hvqueue, List.map_singleton]
  refine ⟨?_, ?_⟩
  · have hnow (f : Entry → Destination → Destination) : (v.mapDests f).now = s.now := hv.now
    rw [hnow]
  · rw [Entry.mapActive_of_active ha, hdests]
    simp only [List.map_cons, List.map_nil, hp, and_self, if_true, hstart]

end

/-- A destination through `f` in a queue of one. -/
theorem mapDest_settle_queue {e : Entry} {d : Destination} {f : Destination → Destination}
    (hqueue : s.queue = [e]) (ha : e.st = .active) (hdests : e.dests = [d]) (hp : d.port = p)
    (hpending : (f d).pending = true) :
    (s.mapDest e.tag p f).settle.queue = [{ e with dests := [f d] }] := by
  rw [settle_queue]
  simp only [mapDest, mapDests_queue, hqueue, List.map_singleton]
  rw [Entry.mapActive_of_active ha, hdests]
  simp only [List.map_cons, List.map_nil, hp, and_self, if_true]
  rw [close_of_pending (d := f d) (by simp) hpending]

end State

namespace Destination

variable {s : State} {d : Destination} {r l : Instant}

theorem release_of_not_running (h : d.state = .waiting r l) (hst : (s.port d.port).st ≠ .running) :
    d.release s = { d with state := .dropped } := by
  simp [release, h, hst]

theorem release_of_late (h : d.state = .waiting r l) (hst : (s.port d.port).st = .running)
    (hpast : past l s.now = true) : d.release s = { d with state := .missed } := by
  simp [release, h, hst, hpast]

theorem release_of_in_time (h : d.state = .waiting r l) (hst : (s.port d.port).st = .running)
    (hpast : past l s.now = false) : d.release s = { d with state := .due l } := by
  simp [release, h, hst, hpast]

/-- The latest start of a DUE destination is reached (R147). -/
def miss (d : Destination) : Destination :=
  match d.state with
  | .due _ => { d with state := .missed }
  | _ => d

end Destination

namespace State

variable {s : State} {p : Port}

theorem takeOwn_missed (tag : Byte) (p : Port) (s : State) :
    s.takeOwn (.missed tag p) = ((s.mapDest tag p Destination.miss).settle).kick := rfl

/-- The destination is released by its port as it stands (R146); what starts comes after. -/
def released (tag : Byte) (p : Port) (u : State) : State := (u.mapDest tag p (Destination.release u)).settle

@[simp] theorem released_frame (tag : Byte) (p : Port) (u : State) :
    (released tag p u).clock = u.clock ∧ (released tag p u).ctrl = u.ctrl ∧
    (released tag p u).channels = u.channels ∧ (released tag p u).gens = u.gens ∧
    (released tag p u).cab = u.cab ∧ (released tag p u).ports = u.ports := by
  simp [released, mapDest]

theorem follows_released (tag : Byte) (p : Port) (u : State) :
    Follows (mapped tag p (Destination.release u)) u (released tag p u) := follows_mapDest_settle ..

/-- The row of a destination's release. -/
theorem exec_destinationRelease {tag : Byte} {release : Instant}
    (h : s.comes (.destinationRelease tag p) release) :
    exec (.destinationRelease tag p) s =
      .next ((released tag p (s.atInstant release)).finishLines).kick :=
  congrArg Host.Outcome.next (ownRow_of_comes h)

@[simp] theorem atInstant_frame (t : Instant) (s : State) :
    (s.atInstant t).clock = { s.clock with cueTime := t } ∧ (s.atInstant t).ctrl = s.ctrl ∧
    (s.atInstant t).channels = s.channels ∧ (s.atInstant t).discards = s.discards ∧
    (s.atInstant t).routes = s.routes ∧ (s.atInstant t).gens = s.gens ∧ (s.atInstant t).ports = s.ports ∧
    (s.atInstant t).queue = s.queue ∧ (s.atInstant t).cab = s.cab ∧ (s.atInstant t).link = s.link := by
  simp [atInstant]

theorem exec_abortRelease {dt : Nat} (h : s.inReset = false) :
    exec (.abortRelease dt p) s =
      .next (((s.elapse dt).setAbort p false).finishLines).kick := by
  refine congrArg Host.Outcome.next ?_
  exact if_neg (by simp [h])

end State
end Sys2Proof.Machine

section
open Sys2Proof Sys2Proof.Machine

/-- Settles O40: the release by the port's state and the latest start, the start on a free line, the same packet
again after ABORT, and the latest start reached. -/
theorem destinationsAreReleasedOrMissed : Obligations.DestinationsAreReleasedOrMissed := by
  unfold Obligations.DestinationsAreReleasedOrMissed
  refine ⟨fun s tag p e d release latest hcomes hentry ha hd hp hwait => ?_,
    fun s p e d release latest hcomes hqueue ha hdests hp hwait hpacket hlatest hrunning hfree hconts hsched => ?_,
    fun dt s p e d k latest hreset => ?_, fun s tag p e d latest hcomes hentry ha hd hp hdue => ?_⟩
  · obtain ⟨he, htag⟩ := State.entry_spec hentry
    have hmapped := State.follows_released tag p (s.atInstant release)
    have hframe := State.released_frame tag p (s.atInstant release)
    refine ⟨_, State.exec_destinationRelease hcomes, ?_⟩
    generalize State.released tag p (s.atInstant release) = v at hmapped hframe
    have hvnow : v.now = release := congrArg Clock.cueTime hframe.1
    obtain ⟨e', he', htag', hframe', d', hd', hfin⟩ :=
      State.exists_mapped_finished (u := v.finishLines.kick) hmapped (by simp) (by simpa using he) ha htag hd hp
    have hport : (d.release (s.atInstant release)).port = p := by
      unfold Destination.release
      rw [hwait]
      dsimp only
      split_ifs <;> exact hp
    have hst : ((s.atInstant release).port d.port).st = (s.port p).st := by rw [hp]; rfl
    have hunow : (s.atInstant release).now = release := rfl
    refine ⟨by simp [hframe], by simp [hframe], by simp [hframe], by simp [hframe], by simp [hframe],
      e', he', htag', hframe', d', hd', hfin.port.trans hport, fun hoff => ?_, fun hrun hpast => ?_,
      fun hrun hahead => ?_⟩
    · rw [Destination.release_of_not_running hwait (by rwa [hst])] at hfin
      rw [hfin.eq_of_not_due (by simp)]
    · rw [Destination.release_of_late hwait (by rwa [hst]) (by rwa [hunow])] at hfin
      rw [hfin.eq_of_not_due (by simp)]
    · rw [Destination.release_of_in_time hwait (by rwa [hst]) (by rwa [hunow])] at hfin
      obtain rfl | ⟨l, hl, ⟨hpast, -⟩ | ⟨-, -, hflight⟩⟩ := hfin.fate
      · exact .inl rfl
      · cases hl
        rw [hvnow, hahead] at hpast
        cases hpast
      · cases hl
        exact .inr hflight
  · intro amplitude k
    have hst : ((s.atInstant release).port d.port).st = .running := by rw [hp]; exact hrunning
    have hunow : (s.atInstant release).now = release := rfl
    have hrelease := Destination.release_of_in_time (s := s.atInstant release) hwait hst (by rwa [hunow])
    have hvqueue : (State.released e.tag p (s.atInstant release)).queue =
        [{ e with dests := [{ d with state := .due latest }] }] := by
      rw [← hrelease]
      exact State.mapDest_settle_queue (by simpa using hqueue) ha hdests hp (by simp [hrelease, Destination.pending])
    obtain ⟨hclock, hctrl, -, -, -, hports⟩ := State.released_frame e.tag p (s.atInstant release)
    refine ⟨_, State.exec_destinationRelease hcomes, ?_⟩
    generalize State.released e.tag p (s.atInstant release) = v at hvqueue hclock hctrl hports
    have hvport (q : Port) : v.port q = s.port q := State.port_of_ports_eq hports q
    have hvnow : v.now = release := congrArg Clock.cueTime hclock
    obtain ⟨hin, hq⟩ := State.finishLines_of_event hvqueue ha rfl rfl (by rwa [hvnow]) hp
      (by rwa [hvport]) (by rwa [hvport]) (fun sc hsc => by rw [hvnow]; exact hsched sc (by rwa [hvport] at hsc))
    have hk (ds : List Destination) : v.eventPacket { e with dests := ds } latest = k := by
      simp only [State.eventPacket, State.degraded, State.ramping, hclock, hctrl, roundDiv_eq_nearest, eventWords,
        ofNat_bytes_eq_append, State.atInstant_frame]
      simp only [k, amplitude, Bool.decide_or]
    refine ⟨?_, ?_⟩
    · rw [State.kick_port, hin, hpacket, hvnow, hk]
      rfl
    · have hkick : v.finishLines.kick.queue = v.finishLines.queue := by simp
      refine hkick.trans (hq.trans ?_)
      simp only [State.startDestination, hpacket, hk, Option.getD_none]
      rfl
  · intro u hqueue ha hdests hp hdue hpacket hlatest hflight hwait hconts hsched
    let v := u.setAbort p false
    have hvport : v.port p = { u.port p with abort := false } := State.withPort_port_same ..
    obtain ⟨hin, hq⟩ := State.finishLines_of_event (s := v) hqueue ha hdests hdue hlatest hp
      (by rw [hvport, State.not_heldOff_iff]; exact ⟨hflight, hwait, rfl⟩) (by rw [hvport]; exact hconts)
      (fun sc hsc => hsched sc (by rwa [hvport] at hsc))
    refine ⟨_, State.exec_abortRelease hreset, ?_, ?_⟩
    · rw [State.kick_port]
      refine hin.trans ?_
      rw [hpacket]
      rfl
    · have hkick : v.finishLines.kick.queue = v.finishLines.queue := by simp
      refine hkick.trans (hq.trans ?_)
      simp only [State.startDestination, hdue, hpacket, Option.getD_some]
      rw [← hpacket]
      rfl
  · obtain ⟨he, htag⟩ := State.entry_spec hentry
    let u := s.atInstant latest
    have hexec : exec (.missed tag p) s = .next ((u.mapDest tag p Destination.miss).settle).kick :=
      congrArg Host.Outcome.next ((State.ownRow_of_comes hcomes).trans (State.takeOwn_missed tag p u))
    obtain ⟨e', he', hf⟩ := (State.follows_mapDest_settle tag p Destination.miss u).exists_entry he
    obtain ⟨d', hd', hmapped⟩ := hf.exists_dest ha hd
    have hmiss : d.miss = { d with state := .missed } := by simp [Destination.miss, hdue]
    rw [State.mapped, if_pos ⟨htag, hp⟩, hmiss] at hmapped
    refine ⟨_, hexec, by simp [u, State.mapDest, State.atInstant], by simp [u, State.mapDest, State.atInstant],
      by simp [u, State.mapDest, State.atInstant], by simp [u, State.mapDest, State.atInstant],
      by simp [u, State.mapDest, State.atInstant], by simp [u, State.mapDest, State.atInstant],
      by simp [u, State.mapDest, State.atInstant], e', by simpa using he', hf.tag.trans htag, hf.frame, d', hd', ?_, ?_⟩
    · rw [hmapped]
      exact hp
    · rw [hmapped]

end

/-! ### WAIT and ABORT (R104 to R106) -/

namespace Sys2Proof.Machine
namespace State

variable {s : State} {p q : Port}

/-- Of a line that is taken or held off the end of an event keeps what waits for no latest start. -/
theorem finishLines_waiting_of_heldOff (h : (s.port p).heldOff) :
    (s.finishLines.port p).inFlight = (s.port p).inFlight ∧
      (s.finishLines.port p).neutral = (s.port p).neutral ∧
        (s.finishLines.port p).echoDue = (s.port p).echoDue := by
  obtain ⟨sched, skips, partials, hport⟩ := s.expirePort_port_same p
  rw [finishLines_port_of_heldOff h, hport]
  exact ⟨rfl, rfl, rfl⟩

/-! #### The interrupted packet (R105) -/

/-- The line is free and ABORT asserted. -/
theorem interrupt_steady (s : State) (p : Port) : (s.port p).Steady ((s.interrupt p).port p) := by
  unfold interrupt
  split
  · exact .refl _
  · dsimp only
    split
    · split <;> simp [BoardPort.steady_iff]
    · split <;> simp [BoardPort.steady_iff]
    · split <;> simp [BoardPort.steady_iff, mapDest]
    · simp [BoardPort.steady_iff]
    · split <;> simp [BoardPort.steady_iff]

theorem interrupt_inFlight (s : State) (p : Port) : ((s.interrupt p).port p).inFlight = none := by
  unfold interrupt
  split
  · assumption
  · dsimp only
    split
    · split <;> simp
    · split <;> simp
    · split <;> simp [mapDest]
    · simp
    · split <;> simp

section
variable {fl : InFlight} (h : (s.port p).inFlight = some fl)
include h

theorem interrupt_of_event {tag : Byte} (hkind : fl.packet.kind = .event) (htag : fl.packet.eventTag = some tag) :
    s.interrupt p = (s.withPort p { s.port p with inFlight := none }).mapDest tag p Destination.interrupt := by
  simp only [interrupt, h, hkind, htag]

theorem interrupt_of_neutral (hkind : fl.packet.kind = .neutral) :
    s.interrupt p = s.withPort p { s.port p with inFlight := none, neutral := some fl.packet } := by
  simp only [interrupt, h, hkind]

theorem interrupt_of_echo (hkind : fl.packet.kind = .echo)
    (hnumber : (s.port p).echo.outstanding.map (·.number) = some fl.packet.echoNumber) :
    s.interrupt p =
      s.withPort p
        { s.port p with
          inFlight := none
          echoDue := some ⟨fl.packet.echoNumber, some fl.packet.frame⟩ } := by
  simp only [interrupt, h, hkind]
  exact if_pos hnumber

/-- A CUE or CONTINUE packet with values left waits on for them (R105, R106). -/
theorem interrupt_of_values (hkind : fl.packet.kind = .cue ∨ fl.packet.kind = .continuation)
    (hleft : fl.deliveredBy s.now (s.port p).cfg < fl.packet.values.length) :
    s.interrupt p =
      s.withPort p
        { s.port p with
          inFlight := none
          conts := (s.port p).conts ++
            [fl.remainder (s.port p).cfg.slots (fl.deliveredBy s.now (s.port p).cfg)] } := by
  obtain hkind | hkind := hkind <;> simp only [interrupt, h, hkind] <;> exact if_pos hleft

end

@[simp] theorem setAbort_port (level : Bool) (s : State) :
    (s.setAbort p level).port p = { s.port p with abort := level } := withPort_port_same ..

@[simp] theorem setWait_port (level : Bool) (s : State) :
    (s.setWait p level).port p = { s.port p with wait := level } := withPort_port_same ..

@[simp] theorem setAbort_frame (level : Bool) (s : State) :
    (s.setAbort p level).clock = s.clock ∧ (s.setAbort p level).ctrl = s.ctrl ∧
    (s.setAbort p level).queue = s.queue := ⟨rfl, rfl, rfl⟩

@[simp] theorem setWait_frame (level : Bool) (s : State) :
    (s.setWait p level).clock = s.clock ∧ (s.setWait p level).ctrl = s.ctrl ∧
    (s.setWait p level).queue = s.queue := ⟨rfl, rfl, rfl⟩

/-- After its assertion ABORT holds the line. -/
theorem heldOff_raised (s : State) (p : Port) : (((s.setAbort p true).interrupt p).port p).heldOff := by
  refine .inr (.inr ?_)
  rw [(interrupt_steady _ p).abort, setAbort_port]

end State
end Sys2Proof.Machine

/-! ### A frame start on a line that its board holds off (R104, R105, R110) -/

namespace Sys2Proof.Machine

/-- What a frame start keeps of a port whose board holds its line off, but for the port's own echo. -/
structure BoardPort.Held (b c : BoardPort) : Prop where
  steady : b.Steady c
  inFlight : b.inFlight = none → c.inFlight = none
  echoDue : c.echoDue = b.echoDue

namespace BoardPort

/-- The board asserts WAIT or ABORT. -/
abbrev boardHolds (b : BoardPort) : Prop := b.wait = true ∨ b.abort = true

variable {b c d : BoardPort}

theorem Held.refl (b : BoardPort) : b.Held b := ⟨.refl b, id, rfl⟩

theorem Held.trans (h : b.Held c) (h' : c.Held d) : b.Held d :=
  ⟨h.steady.trans h'.steady, h'.inFlight ∘ h.inFlight, h'.echoDue.trans h.echoDue⟩

theorem Held.boardHolds (h : b.Held c) (hb : b.boardHolds) : c.boardHolds := by
  unfold BoardPort.boardHolds
  rwa [h.steady.wait, h.steady.abort]

/-- The echo that the interval brings is issued (R110). -/
theorem echoStep_of_interval {now : Instant} (hst : b.st = .running) (hnone : b.echo.outstanding = none)
    (hmiss : b.echo.missCount = 0) (hinterval : b.cfg.echoInterval ≤ b.echo.intervalCount + 1) :
    (b.echoStep now).inFlight = b.inFlight ∧ (b.echoStep now).wait = b.wait ∧
      (b.echoStep now).abort = b.abort ∧ (b.echoStep now).echoDue = some ⟨b.echo.next, none⟩ := by
  simp [echoStep, ageOpening, ageEcho, frameStartIssue, echoIntervalDue, issueEcho, hst, hnone, hmiss, hinterval]

end BoardPort

namespace State

variable {s : State} {p q : Port}

theorem held_of_ports_eq {t : State} (h : t.ports = s.ports) (p : Port) : (s.port p).Held (t.port p) := by
  rw [port_of_ports_eq h p]
  exact .refl _

theorem held_finishLines (h : (s.port p).boardHolds) : (s.port p).Held (s.finishLines.port p) := by
  obtain ⟨hin, -, hecho⟩ := finishLines_waiting_of_heldOff (.inr h)
  exact ⟨s.finishLines_steady p, fun hnone => hin.trans hnone, hecho⟩

theorem held_enterPaused (cause : StateCause) (s : State) (p : Port) :
    (s.port p).Held ((s.enterPaused cause).port p) := by
  refine ⟨enterPaused_steady cause s p, fun h => ?_, ?_⟩ <;> rw [enterPaused_port]
  simp [h]

theorem held_enterHalted (reason : HaltReason) (cause : StateCause) (s : State) (p : Port) :
    (s.port p).Held ((s.enterHalted reason cause).port p) := by
  refine ⟨enterHalted_steady reason cause s p, fun _ => ?_, ?_⟩ <;> rw [enterHalted_port_eq]

theorem held_rampStep (s : State) (p : Port) : (s.port p).Held (s.rampStep.port p) := by
  by_cases hin : s.ctrl.st = .rampIn
  · rw [rampStep_of_rampIn hin]
    split <;> exact held_of_ports_eq (by simp) p
  by_cases hout : s.ctrl.st = .rampOut
  · rw [rampStep_of_rampOut hout]
    split
    · exact held_enterPaused _ s p
    · exact held_of_ports_eq (by simp) p
  · rw [rampStep_of_steady hin hout]
    exact .refl _

theorem held_clockLost (s : State) (p : Port) : (s.port p).Held (s.clockLost.port p) := by
  by_cases h : inMotion s.ctrl.st
  · rw [clockLost_of_inMotion h]
    exact held_enterHalted _ _ s p
  · rw [clockLost_of_still h]
    exact .refl _

theorem held_controllerFrameStart (expired : Bool) (s : State) (p : Port) :
    (s.port p).Held ((s.controllerFrameStart expired).port p) := by
  unfold controllerFrameStart
  split
  · split
    · exact (held_clockLost s p).trans (held_rampStep _ p)
    · exact (held_rampStep s p).trans (held_clockLost _ p)
  · exact held_rampStep s p

theorem held_sourcesFrameStart (renumbering expired : Bool) (s : State) (p : Port) :
    (s.port p).Held ((s.sourcesFrameStart renumbering expired).port p) := by
  have hrecord : (s.port p).Held ((s.recordAndStep expired).port p) := by
    unfold recordAndStep
    split
    · exact (held_of_ports_eq (by simp) p).trans (held_controllerFrameStart expired _ p)
    · exact (held_controllerFrameStart expired s p).trans (held_of_ports_eq (by simp) p)
  exact hrecord.trans (held_of_ports_eq (by simp [sourcesFrameStart]) p)

theorem held_rescheduled (renumbering : Bool) (c : Clock) (b : BoardPort) :
    b.Held (rescheduled renumbering c b) := by
  have hsame : (rescheduled renumbering c b).inFlight = b.inFlight ∧
      (rescheduled renumbering c b).echoDue = b.echoDue := by
    unfold rescheduled BoardPort.reform BoardPort.takeFirst
    split_ifs
    · exact ⟨rfl, rfl⟩
    · exact ⟨rfl, rfl⟩
    · split <;> exact ⟨rfl, rfl⟩
  exact ⟨rescheduled_steady renumbering c b, fun h => hsame.1.trans h, hsame.2⟩

theorem held_deliveryFrameStart (renumbering : Bool) (h : (s.port p).boardHolds) :
    (s.port p).Held ((s.deliveryFrameStart renumbering).port p) := by
  have hre : (s.port p).Held ((s.reordered renumbering).port p) := by
    rw [reordered_port]
    exact held_rescheduled renumbering s.clock _
  exact hre.trans (held_finishLines (hre.boardHolds h))

theorem losePort_port (q : Port) (s : State) (p : Port) :
    (s.losePort q).port p = if p = q then (s.port q).lost else s.port p := by
  rw [losePort_eq, ← withPort_port]
  exact port_of_ports_eq (by simp) p

/-- Another port's echo leaves the port but for a halt of the hub. -/
theorem held_echoFrameStart_other (hq : p ≠ q) (s : State) : (s.port p).Held ((s.echoFrameStart q).port p) := by
  have hlost (u : State) : (u.port p).Held ((u.losePort q).port p) := by
    rw [losePort_port, if_neg hq]
    exact .refl _
  have hhub (u : State) : (u.port p).Held ((u.portLost q).port p) := by
    obtain h | h := portLost_eq q u
    · rw [h]
      exact held_enterHalted _ _ u p
    · rw [h]
      exact .refl _
  have hport (b : BoardPort) : (s.port p).Held ((s.withPort q b).port p) := by
    rw [withPort_port, if_neg hq]
    exact .refl _
  unfold echoFrameStart
  dsimp only
  split
  · exact ((hport _).trans (hlost _)).trans (hhub _)
  · exact hport _

/-- The port's own echo step comes once among those of the frame start. -/
theorem foldl_echoFrameStart_held {ps : List Port} (hps : ps.Nodup) (hp : p ∈ ps)
    (hlost : (s.port p).goesLost = false) :
    ∃ c, (s.port p).Held c ∧ (c.echoStep s.now).Held ((ps.foldl (fun s p => s.echoFrameStart p) s).port p) := by
  have hrest (qs : List Port) (hqs : p ∉ qs) (u : State) :
      (u.port p).Held ((qs.foldl (fun s p => s.echoFrameStart p) u).port p) := by
    induction qs generalizing u with
    | nil => exact .refl _
    | cons q qs ih =>
      obtain ⟨hq, hqs'⟩ : p ≠ q ∧ p ∉ qs := by simpa using hqs
      exact (held_echoFrameStart_other hq u).trans (ih hqs' _)
  induction ps generalizing s with
  | nil => cases hp
  | cons q qs ih =>
    obtain ⟨hq, hnodup⟩ := List.nodup_cons.mp hps
    rw [List.foldl_cons]
    by_cases hpq : p = q
    · subst hpq
      refine ⟨s.port p, .refl _, ?_⟩
      have hstep := hrest qs hq (s.echoFrameStart p)
      have hown : (s.echoFrameStart p).port p = (s.port p).echoStep s.now := by
        rw [echoFrameStart_of_kept hlost, withPort_port_same]
      rwa [hown] at hstep
    · have hheld := held_echoFrameStart_other hpq s
      have hmem : p ∈ qs := (List.mem_cons.mp hp).resolve_left hpq
      obtain ⟨c, hc, hstep⟩ := ih (s := s.echoFrameStart q) hnodup hmem
        ((BoardPort.goesLost_of_steady hheld.steady).trans hlost)
      have hnow : (s.echoFrameStart q).now = s.now := by simp [now]
      exact ⟨c, hheld.trans hc, hnow ▸ hstep⟩

/-- An echo that the interval brings waits on a line that its board holds off (R104, R110). -/
theorem frameStart_echoDue (hholds : (s.port p).boardHolds) (hst : (s.port p).st = .running)
    (hnone : (s.port p).echo.outstanding = none) (hmiss : (s.port p).echo.missCount = 0)
    (hinterval : (s.port p).cfg.echoInterval ≤ (s.port p).echo.intervalCount + 1)
    (hflight : (s.port p).inFlight = none) :
    (s.frameStart.port p).inFlight = none ∧
      (s.frameStart.port p).echoDue = some ⟨(s.port p).echo.next, none⟩ := by
  have hechoes {u : State} (hu : (s.port p).Held (u.port p)) :
      (u.echoesFrameStart.port p).boardHolds ∧ (u.echoesFrameStart.port p).inFlight = none ∧
        (u.echoesFrameStart.port p).echoDue = some ⟨(s.port p).echo.next, none⟩ := by
    have hlost : (u.port p).goesLost = false := by
      simp [BoardPort.goesLost, BoardPort.echoIsMissed, hu.steady.echo, hnone]
    obtain ⟨c, hc, hstep⟩ := foldl_echoFrameStart_held u.portOrder_nodup (u.mem_portOrder p) hlost
    have hsc := hu.trans hc
    obtain ⟨hin, hwait, habort, hdue⟩ := BoardPort.echoStep_of_interval (b := c) (now := u.now)
      (hsc.steady.st.trans hst) (by rw [hsc.steady.echo, hnone]) (by rw [hsc.steady.echo, hmiss])
      (by rw [hsc.steady.cfg, hsc.steady.echo]; exact hinterval)
    have hcholds : (c.echoStep u.now).boardHolds := by
      unfold BoardPort.boardHolds
      rw [hwait, habort]
      exact hsc.boardHolds hholds
    refine ⟨hstep.boardHolds hcholds, hstep.inFlight (hin.trans (hsc.inFlight hflight)), ?_⟩
    rw [echoesFrameStart, hstep.echoDue, hdue, hsc.steady.echo]
  have hend {u : State} (h : (u.port p).boardHolds ∧ (u.port p).inFlight = none ∧
      (u.port p).echoDue = some ⟨(s.port p).echo.next, none⟩) :
      ((u.finishLines.nextChoice).kick.port p).inFlight = none ∧
        ((u.finishLines.nextChoice).kick.port p).echoDue = some ⟨(s.port p).echo.next, none⟩ := by
    obtain ⟨hholds', hin, hdue⟩ := h
    have hheld := held_finishLines hholds'
    rw [port_of_ports_eq (t := (u.finishLines.nextChoice).kick) (s := u.finishLines) (by simp) p]
    exact ⟨hheld.inFlight hin, hheld.echoDue.trans hdue⟩
  have hclock : (s.port p).Held (s.clockFrameStart.port p) := held_of_ports_eq (by simp) p
  unfold frameStart
  dsimp only
  split
  · have hdelivery := hclock.trans
      (held_deliveryFrameStart s.clock.renumber (hclock.boardHolds hholds))
    exact hend (hechoes (hdelivery.trans (held_sourcesFrameStart _ _ _ p)))
  · obtain ⟨hholds', hin, hdue⟩ := hechoes (hclock.trans (held_sourcesFrameStart s.clock.renumber
      (decide (s.clock.st = .holdover) && decide (s.clock.frameStart.st = .acquire)) _ p))
    have hdelivery := held_deliveryFrameStart s.clock.renumber hholds'
    exact hend ⟨hdelivery.boardHolds hholds', hdelivery.inFlight hin, hdelivery.echoDue.trans hdue⟩

end State
end Sys2Proof.Machine

section
open Sys2Proof Sys2Proof.Machine

/-- Settles O31: a line held off starts nothing, ABORT keeps the packet to be finished or resent, and each release
lets what is due start. -/
theorem waitAndAbortActOnTheLine : Obligations.WaitAndAbortActOnTheLine := by
  unfold Obligations.WaitAndAbortActOnTheLine
  refine ⟨fun dt p s hreset => ⟨rfl, ?_⟩,
    fun s tag p e d release latest hcomes hentry ha hd hp hwait hahead hrunning hflight hholds => ?_,
    fun s p hcomes hst hnone hmiss hinterval hflight hholds => ?_, fun dt p s hreset => ⟨?_, ?_⟩⟩
  · have hexec : exec (.waitRelease dt p) s = .next (((s.elapse dt).setWait p false).finishLines).kick :=
      congrArg Host.Outcome.next (if_neg (by simp [hreset]))
    refine ⟨_, hexec, ?_⟩
    generalize s.elapse dt = u
    have hsteady := (u.setWait p false).finishLines_steady p
    refine ⟨?_, by simp, by simp, fun fl hfl => ?_, fun habort => ?_,
      fun e hqueue hsched hconts hneutral hflight habort hdue => ?_⟩
    · rw [State.kick_port, hsteady.wait, State.setWait_port]
    · rw [State.kick_port]
      exact State.finishLines_of_inFlight (by simpa using hfl)
    · have hheld : ((u.setWait p false).port p).heldOff := .inr (.inr (by simpa using habort))
      rw [State.kick_port, (State.finishLines_waiting_of_heldOff hheld).1, State.setWait_port]
    · have hfree : ¬((u.setWait p false).port p).heldOff := by
        rw [State.not_heldOff_iff, State.setWait_port]
        exact ⟨hflight, rfl, habort⟩
      have hidle := ((State.finishLines_port_of_idle hfree (State.notDue_of_none (by simpa using hsched))
        (by simpa using hconts) (State.noEventDue_expireAll_of_empty hqueue)).2 (by simpa using hneutral)).1 e
        (by simpa using hdue)
      rw [State.kick_port, hidle]
      exact ⟨rfl, rfl⟩
  · obtain ⟨he, htag⟩ := State.entry_spec hentry
    have hmapped := State.follows_released tag p (s.atInstant release)
    obtain ⟨hclock, -, -, -, -, hports⟩ := State.released_frame tag p (s.atInstant release)
    refine ⟨_, State.exec_destinationRelease hcomes, ?_⟩
    generalize State.released tag p (s.atInstant release) = v at hmapped hclock hports
    have hvport : v.port p = s.port p := State.port_of_ports_eq hports p
    have hheld : (v.port p).heldOff := by
      rw [hvport]
      exact .inr hholds
    have hvnow : v.now = release := congrArg Clock.cueTime hclock
    have hunow : (s.atInstant release).now = release := rfl
    obtain ⟨e', he', htag', -, d', hd', hfin⟩ :=
      State.exists_mapped_finished (u := v.finishLines.kick) hmapped (by simp) (by simpa using he) ha htag hd hp
    rw [Destination.release_of_in_time hwait (by rw [hp]; exact hrunning) (by rwa [hunow])] at hfin
    rw [hfin.eq_of_heldOff rfl (by rw [hp]; exact hheld) (by rwa [hvnow])] at hd'
    refine ⟨?_, e', he', htag', _, hd', hp, rfl⟩
    rw [State.kick_port, (State.finishLines_waiting_of_heldOff hheld).1, hvport, hflight]
  · let u := s.atInstant s.clock.frameEnd
    have hbrings : (u.port p).echoIntervalDue = true := by
      have huport : u.port p = s.port p := rfl
      simp [BoardPort.echoIntervalDue, huport, hst, hnone, hmiss, hinterval]
    have hrow : exec (.echoInterval p) s = .next u.frameStart :=
      congrArg Host.Outcome.next (State.frameRow_of_comes hcomes hbrings)
    exact ⟨_, hrow, State.frameStart_echoDue (s := u) hholds hst hnone hmiss hinterval hflight⟩
  · have hexec : exec (.abortAssert dt p) s =
        .next ((((s.elapse dt).setAbort p true).interrupt p).finishLines).kick :=
      congrArg Host.Outcome.next (if_neg (by simp [hreset]))
    refine ⟨_, hexec, ?_⟩
    generalize s.elapse dt = u
    have hheld := u.heldOff_raised p
    have hsteady := (((u.setAbort p true).interrupt_steady p).trans
      (State.finishLines_steady ((u.setAbort p true).interrupt p) p))
    obtain ⟨hin, hneutral, hecho⟩ := State.finishLines_waiting_of_heldOff hheld
    have hflight {fl : InFlight} (h : (u.port p).inFlight = some fl) :
        ((u.setAbort p true).port p).inFlight = some fl := by simpa using h
    have hport {b : BoardPort} {v : State} (h : v = (u.setAbort p true).withPort p b) : v.port p = b := by
      rw [h, State.withPort_port_same]
    refine ⟨?_, ?_, by simp, by simp, fun fl tag hfl hkind htag e he ha hetag d hd l hp hl hahead => ?_,
      fun fl hfl hkind => ?_, fun fl o hfl hkind ho hnumber => ?_, fun fl l hfl hkind hl hahead => ?_⟩
    · rw [State.kick_port, hsteady.abort, State.setAbort_port]
    · rw [State.kick_port, hin, State.interrupt_inFlight]
    · have hmapped := State.follows_mapDest tag p Destination.interrupt
        ((u.setAbort p true).withPort p { (u.setAbort p true).port p with inFlight := none })
      rw [← State.interrupt_of_event (hflight hfl) hkind htag] at hmapped
      have hnow : ((u.setAbort p true).interrupt p).now = u.now := by simp [State.now]
      obtain ⟨e', he', htag', -, d', hd', hfin⟩ := State.exists_mapped_finished hmapped
        (u := (((u.setAbort p true).interrupt p).finishLines).kick) (by simp) he ha hetag hd hp
      have hinterrupt : d.interrupt = { d with state := .due l } := by simp [Destination.interrupt, hl]
      rw [hinterrupt] at hfin
      rw [hfin.eq_of_heldOff rfl (by rw [hp]; exact hheld) (by rwa [hnow])] at hd'
      exact ⟨e', he', htag', hd'⟩
    · rw [State.kick_port, hneutral, hport (State.interrupt_of_neutral (hflight hfl) hkind)]
    · have hmatch : ((u.setAbort p true).port p).echo.outstanding.map (·.number) =
          some fl.packet.echoNumber := by
        rw [State.setAbort_port, ← hnumber]
        exact congrArg (Option.map _) ho
      rw [State.kick_port, hsteady.echo, hecho, hport (State.interrupt_of_echo (hflight hfl) hkind hmatch),
        State.setAbort_port, hnumber]
      exact ⟨rfl, rfl⟩
    · intro ended n hleft
      have hn : fl.deliveredBy (u.setAbort p true).now ((u.setAbort p true).port p).cfg = n := by
        rw [State.setAbort_port]
        rfl
      have hinterrupt := hport (State.interrupt_of_values (hflight hfl) hkind (by rwa [hn]))
      rw [hn] at hinterrupt
      have hnow : ((u.setAbort p true).interrupt p).now = u.now := by simp [State.now]
      have hrest : ((fl.remainder (u.port p).cfg.slots n).latest.getD u.now) = l := by
        have hlatest : (fl.remainder (u.port p).cfg.slots n).latest = some l := hl
        rw [hlatest]
        rfl
      rw [State.kick_port, State.finishLines_conts_of_heldOff hheld, hinterrupt, hnow]
      refine List.mem_filter.mpr ⟨List.mem_append_right _ (List.mem_singleton.mpr ?_), ?_⟩
      · rw [State.setAbort_port]
        rfl
      have hkeep : (!past ((fl.remainder (u.port p).cfg.slots n).latest.getD u.now) u.now) = true := by
        rw [hrest, hahead]
        rfl
      exact hkeep
  · refine ⟨_, State.exec_abortRelease hreset, ?_⟩
    generalize s.elapse dt = u
    have hsteady := (u.setAbort p false).finishLines_steady p
    refine ⟨?_, by simp, by simp, fun hqueue hsched hflight hwait => ⟨fun k l hconts hl hahead => ?_,
      fun k hconts hneutral => ?_⟩⟩
    · rw [State.kick_port, hsteady.abort, State.setAbort_port]
    all_goals
      have hfree : ¬((u.setAbort p false).port p).heldOff := by
        rw [State.not_heldOff_iff, State.setAbort_port]
        exact ⟨hflight, hwait, rfl⟩
      have hnotDue : (u.setAbort p false).notDue p := State.notDue_of_none (by simpa using hsched)
    · rw [State.kick_port]
      exact State.finishLines_port_of_continuation hfree hnotDue (by simpa using hconts)
        (by rw [hl]; exact hahead) (State.noEventDue_expireAll_of_empty hqueue)
    · rw [State.kick_port, (State.finishLines_port_of_idle hfree hnotDue (by simpa using hconts)
        (State.noEventDue_expireAll_of_empty hqueue)).1 k (by simpa using hneutral)]
      exact ⟨rfl, rfl⟩

end

/-! ### Latencies and instants formed anew (R120 to R125, R132, R145, R147) -/

namespace Sys2Proof.Machine

namespace Destination

variable {s u : State} {e : Entry} {d d' d'' : Destination} {f : Frame} {p : Port} {b : BoardPort} {c : Clock}

/-! #### The refresh of one destination -/

theorem refresh_of_waiting {presentation r l : Instant} (hp : s.clock.presentation e.frame = some presentation)
    (hd : d.state = .waiting r l)
    (hahead : reached ((s.port d.port).eventRelease presentation) s.now = false) :
    d.refresh s e =
      { d with
        state :=
          .waiting ((s.port d.port).eventRelease presentation) ((s.port d.port).eventLatest presentation) } := by
  simp [refresh, hp, hd, releaseIfReached, hahead]

theorem refresh_of_due {presentation l : Instant} (hp : s.clock.presentation e.frame = some presentation)
    (hd : d.state = .due l) (hstarts : d.starts = 0) :
    d.refresh s e = { d with state := .due ((s.port d.port).eventLatest presentation) } := by
  simp [refresh, hp, hd, hstarts]

theorem refresh_of_started {l : Instant} (hd : d.state = .due l) (hstarts : d.starts ≠ 0) :
    d.refresh s e = d := by
  unfold refresh
  rw [hd]
  cases s.clock.presentation e.frame <;> simp [hstarts]

/-- The instants of a destination on port `p`, formed anew by the latency and the guard of `b`: one that waits, and
one that is due on a line held off and never started, take them; one that has started keeps its latest start. -/
def Retimed (c : Clock) (p : Port) (b : BoardPort) (f : Frame) (d d' : Destination) : Prop :=
  d.port = p → ∀ presentation, c.presentation f = some presentation →
    (∀ r l, d.state = .waiting r l → reached (b.eventRelease presentation) c.cueTime = false →
      d' = { d with state := .waiting (b.eventRelease presentation) (b.eventLatest presentation) }) ∧
    (∀ l, d.state = .due l → d.starts = 0 → b.heldOff → past (b.eventLatest presentation) c.cueTime = false →
      d' = { d with state := .due (b.eventLatest presentation) }) ∧
    ∀ l, d.state = .due l → d.starts ≠ 0 → b.heldOff → past l c.cueTime = false → d' = d

/-- The destination as it was, or refreshed once more. -/
def Again (u : State) (f : Frame) (d d' : Destination) : Prop :=
  d' = d ∨ ∃ e : Entry, e.frame = f ∧ d' = d.refresh u e

theorem Again.refl (u : State) (f : Frame) (d : Destination) : d.Again u f d := .inl rfl

section
variable (hclock : u.clock = c) (hlat : (u.port p).latEvent = b.latEvent)
  (hguard : (u.port p).cfg.guard = b.cfg.guard)
include hclock hlat hguard

theorem retimed_refresh (hf : e.frame = f) : d.Retimed c p b f (d.refresh u e) := by
  intro hp presentation hpresentation
  subst hclock hf
  have hrelease : (u.port d.port).eventRelease presentation = b.eventRelease presentation := by
    rw [hp, BoardPort.eventRelease, BoardPort.eventRelease, hlat, hguard]
  have hlatest : (u.port d.port).eventLatest presentation = b.eventLatest presentation := by
    rw [hp, BoardPort.eventLatest, BoardPort.eventLatest, hlat]
  refine ⟨fun r l hd hahead => ?_, fun l hd hstarts _ _ => ?_, fun l hd hstarts _ _ => refresh_of_started hd hstarts⟩
  · rw [refresh_of_waiting hpresentation hd (by rw [hrelease]; exact hahead), hrelease, hlatest]
  · rw [refresh_of_due hpresentation hd hstarts, hlatest]

/-- A second refresh finds the instants as the first has formed them. -/
theorem Retimed.again (h : d.Retimed c p b f d') (h' : d'.Again u f d'') : d.Retimed c p b f d'' := by
  obtain rfl | ⟨e, hf, rfl⟩ := h'
  · exact h
  intro hp presentation hpresentation
  obtain ⟨hwait, hdue, hstarted⟩ := h hp presentation hpresentation
  have hsecond := retimed_refresh (e := e) (d := d') hclock hlat hguard hf
  refine ⟨fun r l hd hahead => ?_, fun l hd hstarts hheld hahead => ?_, fun l hd hstarts hheld hahead => ?_⟩
  · have hd' := hwait r l hd hahead
    subst hd'
    exact (hsecond hp presentation hpresentation).1 _ _ rfl hahead
  · have hd' := hdue l hd hstarts hheld hahead
    subst hd'
    exact (hsecond hp presentation hpresentation).2.1 _ rfl hstarts hheld hahead
  · have hd' := hstarted l hd hstarts hheld hahead
    subst hd'
    exact (hsecond hp presentation hpresentation).2.2 l hd hstarts hheld hahead

end

/-- The end of the event leaves the instants that are ahead. -/
theorem Retimed.finish (h : d.Retimed c p b f d') (hnow : s.now = c.cueTime)
    (hheld : b.heldOff → (s.port p).heldOff) (h' : d'.Finishes s d'') : d.Retimed c p b f d'' := by
  intro hp presentation hpresentation
  obtain ⟨hwait, hdue, hstarted⟩ := h hp presentation hpresentation
  refine ⟨fun r l hd hahead => ?_, fun l hd hstarts hb hahead => ?_, fun l hd hstarts hb hahead => ?_⟩
  · have hd' := hwait r l hd hahead
    subst hd'
    exact h'.eq_of_not_due (by simp)
  · have hd' := hdue l hd hstarts hb hahead
    subst hd'
    exact h'.eq_of_heldOff rfl (by simpa [hp] using hheld hb) (by rwa [hnow])
  · have hd' := hstarted l hd hstarts hb hahead
    subst hd'
    exact h'.eq_of_heldOff hd (by simpa [hp] using hheld hb) (by rwa [hnow])

end Destination

namespace State

variable {s t : State} {p : Port}

theorem follows_refreshEvents {which : Port → Bool} (hp : which p = true) (s : State) :
    Follows (fun e d d' => d.port = p → d' = d.refresh s e) s (s.refreshEvents which) :=
  follows_mapDests_settle fun e d hd => by rw [hd, hp, if_pos rfl]

theorem again_refreshEvents (which : Port → Bool) (s : State) :
    Follows (fun e => Destination.Again s e.frame) s (s.refreshEvents which) :=
  follows_mapDests_settle fun e d => by
    split
    · exact .inr ⟨e, rfl, rfl⟩
    · exact .inl rfl

theorem retimed_refreshEvents {which : Port → Bool} (hp : which p = true) {b : BoardPort}
    (hlat : (s.port p).latEvent = b.latEvent) (hguard : (s.port p).cfg.guard = b.cfg.guard) :
    Follows (fun e => Destination.Retimed s.clock p b e.frame) s (s.refreshEvents which) :=
  (follows_refreshEvents hp s).mono fun e d d' h hd presentation hpresentation => by
    rw [h hd]
    exact Destination.retimed_refresh rfl hlat hguard rfl hd presentation hpresentation

end State

/-! #### The port with its latencies formed anew -/

namespace BoardPort

/-- The port with its latencies formed anew, and its scheduler's instants when the first one changes (R122,
R132). -/
def relatent (c : Clock) (b : BoardPort) : BoardPort :=
  if b.withLatencies.latCue = b.latCue then b.withLatencies else b.withLatencies.reform c

variable {b : BoardPort} {c : Clock}

theorem reform_steady (c : Clock) (b : BoardPort) : b.Steady (b.reform c) := by
  unfold reform
  split
  · simp [steady_iff]
  · exact .refl b

theorem relatent_steady (c : Clock) (b : BoardPort) : b.withLatencies.Steady (b.relatent c) := by
  unfold relatent
  split
  · exact .refl _
  · exact reform_steady c _

theorem reform_inFlight (c : Clock) (b : BoardPort) : (b.reform c).inFlight = b.inFlight := by
  unfold reform
  split <;> rfl

theorem relatent_inFlight (c : Clock) (b : BoardPort) : (b.relatent c).inFlight = b.inFlight := by
  unfold relatent
  split
  · rfl
  · exact reform_inFlight c _

theorem heldOff_reform (c : Clock) (b : BoardPort) : (b.reform c).heldOff ↔ b.heldOff := by
  unfold heldOff
  rw [reform_inFlight, (reform_steady c b).wait, (reform_steady c b).abort]

theorem heldOff_relatent (c : Clock) (b : BoardPort) : (b.relatent c).heldOff ↔ b.heldOff := by
  unfold heldOff
  rw [relatent_inFlight, (relatent_steady c b).wait, (relatent_steady c b).abort]
  rfl

theorem reform_sched {sc : Schedule} (h : b.sched = some sc) :
    (b.reform c).sched = some (b.schedule c sc.next sc.due) := by
  simp [reform, h]

theorem relatent_sched {sc : Schedule} (h : b.sched = some sc) (hlat : b.withLatencies.latCue ≠ b.latCue) :
    (b.relatent c).sched = some (b.withLatencies.schedule c sc.next sc.due) := by
  unfold relatent
  rw [if_neg hlat]
  exact reform_sched (b := b.withLatencies) h

/-- The instants of N_b, from its presentation instant (R125, R132). -/
theorem schedule_of_presentation {presentation : Instant} {next : Frame} (due : Bool)
    (h : c.presentation next = some presentation) :
    b.schedule c next due =
      ⟨next, b.cueRelease presentation, b.cueLatest presentation,
        due || past (b.cueRelease presentation) c.cueTime⟩ := by
  simp [schedule, Clock.presentationOr, h]

/-- A schedule formed twice by the same latency and guard. -/
theorem schedule_again {presentation : Instant} {next : Frame} (due : Bool) {b' : BoardPort}
    (h : c.presentation next = some presentation) (hlat : b'.latCue = b.latCue)
    (hguard : b'.cfg.guard = b.cfg.guard) :
    b'.schedule c next (b.schedule c next due).due = b.schedule c next due := by
  rw [schedule_of_presentation _ h, schedule_of_presentation _ h]
  simp [cueRelease, cueLatest, hlat, hguard]

end BoardPort

namespace State

variable {s : State} {p q : Port}

theorem relatency_port (p : Port) (s : State) (q : Port) :
    (s.relatency p).port q = if q = p then (s.port p).relatent s.clock else s.port q := by
  rw [← withPort_port]
  refine port_of_ports_eq ?_ q
  unfold relatency
  dsimp only
  split
  · rfl
  · simp [BoardPort.relatent]

theorem reguard_port (p : Port) (s : State) (q : Port) :
    (s.reguard p).port q = if q = p then (s.port p).reform s.clock else s.port q := by
  rw [← withPort_port]
  exact port_of_ports_eq (by simp [reguard]) q

theorem relatency_queue (h : (s.port p).withLatencies.latEvent = (s.port p).latEvent) :
    (s.relatency p).queue = s.queue := by
  unfold relatency
  dsimp only
  rw [if_pos h]
  rfl

theorem retimed_relatency (h : (s.port p).withLatencies.latEvent ≠ (s.port p).latEvent) :
    Follows (fun e => Destination.Retimed s.clock p (s.port p).withLatencies e.frame) s (s.relatency p) := by
  let u := s.withPort p ((s.port p).relatent s.clock)
  have hrelatency : s.relatency p = u.refreshEvents fun q => decide (q = p) := if_neg h
  have huport : u.port p = (s.port p).relatent s.clock := withPort_port_same ..
  have hsteady := (s.port p).relatent_steady s.clock
  rw [hrelatency]
  exact retimed_refreshEvents (s := u) (p := p) (b := (s.port p).withLatencies) (decide_eq_true rfl)
    (by rw [huport, hsteady.latEvent]) (by rw [huport, hsteady.cfg])

theorem retimed_reguard (p : Port) (s : State) :
    Follows (fun e => Destination.Retimed s.clock p (s.port p) e.frame) s (s.reguard p) := by
  let u := s.withPort p ((s.port p).reform s.clock)
  have huport : u.port p = (s.port p).reform s.clock := withPort_port_same ..
  have hsteady := (s.port p).reform_steady s.clock
  exact retimed_refreshEvents (s := u) (p := p) (b := s.port p) (decide_eq_true rfl)
    (by rw [huport, hsteady.latEvent]) (by rw [huport, hsteady.cfg])

theorem again_reguard (p : Port) (s : State) :
    Follows (fun e => Destination.Again (s.withPort p ((s.port p).reform s.clock)) e.frame) s (s.reguard p) :=
  again_refreshEvents _ (s.withPort p ((s.port p).reform s.clock))

/-- What the last step of the event makes of destinations whose instants are formed anew. -/
theorem Follows.retimed_finish {c : Clock} {b : BoardPort} {t u : State}
    (h : Follows (fun e => Destination.Retimed c p b e.frame) s t) (hu : u.queue = t.finishLines.queue)
    (hnow : t.now = c.cueTime) (hheld : b.heldOff → (t.port p).heldOff) :
    Follows (fun e => Destination.Retimed c p b e.frame) s u := by
  have hall := (h.trans (Destination.Finishes.refl t) (follows_finishLines t)).mono
    (S := fun e => Destination.Retimed c p b e.frame)
    fun e d d'' ⟨d', hd, hfin⟩ => hd.finish hnow hheld hfin
  unfold Follows at hall ⊢
  rwa [hu]

end State
end Sys2Proof.Machine

/-! ### ECHO_REPLY and PRESENTED (R112, R115, R117, R123, R124) -/

namespace Sys2Proof.Machine

/-- The ceiling of a quotient lies between its bounds. -/
theorem ceilDivInt_bounds (a : Int) {n : Nat} (hn : 0 < n) :
    a ≤ ceilDivInt a n * n ∧ (ceilDivInt a n - 1) * n < a := by
  have hpos : (0 : Int) < n := by exact_mod_cast hn
  have hle := Int.ediv_mul_le (-a) hpos.ne'
  have hlt := Int.lt_ediv_add_one_mul_self (-a) hpos
  unfold ceilDivInt
  constructor <;> linarith

namespace BoardPort

/-- The latency of a packet whose payload has `payload` words, over this base delay (R120, R121). -/
def latencyOf (b : BoardPort) (base : Int) (payload : Nat) : Nat :=
  (max 0 (min (60000 : Int)
    (base + b.echo.lineDelay + ((3 + (payload + b.cfg.width - 1) / b.cfg.width) * b.cfg.beatPeriod : Nat)))).toNat

theorem withLatencies_latCue (b : BoardPort) :
    b.withLatencies.latCue = b.latencyOf b.baseDelay b.cfg.slots := rfl

theorem withLatencies_latEvent (b : BoardPort) : b.withLatencies.latEvent = b.latencyOf b.baseDelay 4 := rfl

/-- The correction is the ceiling of the mean of the window's errors, held within its bounds (R124). -/
theorem correction_of_window {b : BoardPort} (h : b.window ≠ []) :
    b.correction =
      max (-10000) (min 10000 (ceilDivInt (b.window.map (·.error)).sum b.window.length)) := by
  unfold correction
  rw [if_neg (by simpa using h)]
  rfl

end BoardPort

namespace State

variable {s : State} {p : Port}

theorem takeSummed_of_off (span : Nat) (words : List Word) (h : (s.port p).st = .off) :
    s.takeSummed p span words = s := takeWords_of_off span _ h

/-- A report with its right sum, heard whole (R116, R187). -/
theorem takeSummed_of_open {span : Nat} {kind : Word} {fields : List Word} (hst : (s.port p).st ≠ .off)
    (hopen : (s.port p).openFor span s.now) (hinbound : (s.port p).inbound = none)
    (hkind : reportLength kind = some (fields.length + 2)) :
    s.takeSummed p span (kind :: fields) =
      s.takeReport p (s.now - micro span) (kind :: (fields ++ [sumOf (kind :: fields)])) := by
  have hreport := takeWords_of_report (s := s) (p := p) (kind := kind)
    (rest := fields ++ [sumOf (kind :: fields)]) hst hopen hinbound (by simpa using hkind) (by simp)
  exact hreport.trans (judgeReport_of_sum (words := kind :: fields))

theorem takeReport_of_presented {arrival : Instant} {frame : Frame} {sum : Word}
    (hst : (s.port p).st = .running) : s.takeReport p arrival [2, frame, sum] = s.takePresented p arrival frame := by
  simp [takeReport, hst]

theorem takeReport_of_presented_unheard {arrival : Instant} {frame : Frame} {sum : Word}
    (hst : (s.port p).st ≠ .running) : s.takeReport p arrival [2, frame, sum] = s := by
  simp [takeReport, hst]

/-- A port through new latencies and the end of the event. -/
theorem relatency_finished_steady (b : BoardPort) (s : State) (p : Port) :
    b.withLatencies.Steady ((((s.withPort p b).relatency p).finishLines).kick.port p) := by
  rw [kick_port]
  have hport : ((s.withPort p b).relatency p).port p = b.relatent s.clock := by
    rw [relatency_port, if_pos rfl, withPort_port_same]
    rfl
  refine BoardPort.Steady.trans ?_ (finishLines_steady _ p)
  rw [hport]
  exact b.relatent_steady s.clock

end State
end Sys2Proof.Machine

section
open Sys2Proof Sys2Proof.Machine

/-- Settles O34: the error joins the window, and the ceiling of its mean the latencies (R123, R124). -/
theorem presentedReportsEnterTheWindow : Obligations.PresentedReportsEnterTheWindow := by
  unfold Obligations.PresentedReportsEnterTheWindow
  intro dt p span frame s hreset u b c hinbound hopen
  have hexec : exec c s = .next (u.takeSummed p span [2, frame]) :=
    congrArg Host.Outcome.next (outside_of_running dt _ hreset)
  have hheard (hst : b.st ≠ .off) := State.takeSummed_of_open (kind := 2) (fields := [frame]) hst hopen hinbound rfl
  refine ⟨fun hno => ?_, fun start hst hstart => ?_⟩
  · by_cases hoff : b.st = .off
    · rw [hexec, State.takeSummed_of_off _ _ hoff]
    rw [hexec, hheard hoff]
    refine congrArg Host.Outcome.next ?_
    by_cases hrun : b.st = .running
    · have hnone : u.clock.ringStart frame = none := hno.resolve_left (not_not.mpr hrun)
      refine (State.takeReport_of_presented hrun).trans ?_
      simp only [State.takePresented, hnone]
    · exact State.takeReport_of_presented_unheard hrun
  · intro error window sum latency
    let b₁ := b.addError ⟨frame, error⟩
    have htake : u.takeSummed p span [2, frame] = (((u.withPort p b₁).relatency p).finishLines).kick := by
      refine (hheard (by simp [hst])).trans ((State.takeReport_of_presented hst).trans ?_)
      simp only [State.takePresented, hstart]
      rfl
    have hsteady := u.relatency_finished_steady b₁ p
    have hwindow : b₁.window = window := rfl
    have hne : window ≠ [] := by simp [window]
    have hcorrection : b₁.correction = max (-10000) (min 10000 (ceilDivInt sum window.length)) :=
      BoardPort.correction_of_window (b := b₁) hne
    have hlatency (payload : Nat) : b₁.latencyOf b₁.baseDelay payload = latency (ceilDivInt sum window.length) payload := by
      unfold BoardPort.baseDelay
      rw [hcorrection]
      rfl
    have hbounds := ceilDivInt_bounds sum (List.length_pos_iff.mpr hne)
    refine ⟨_, hexec.trans (congrArg Host.Outcome.next htake), hsteady.window,
      ⟨ceilDivInt sum window.length, hbounds.1, hbounds.2, ?_, ?_, ?_⟩, hsteady.echo, hsteady.st.trans hst, hsteady.cfg,
      by simp, by simp, by simp, by simp, by simp, by simp⟩
    · rw [← hcorrection]
      unfold BoardPort.correction
      rw [hsteady.window]
      rfl
    · rw [hsteady.latCue, BoardPort.withLatencies_latCue, hlatency]
      rfl
    · rw [hsteady.latEvent, BoardPort.withLatencies_latEvent, hlatency]

end

/-! ### ECHO_REPLY (R112, R115) -/

namespace Sys2Proof.Machine

namespace BoardPort

variable {b : BoardPort} {c : Clock}

/-- N_b on a line held off, with the instants of its latency and guard (R125, R132). -/
theorem schedule_eq {presentation : Instant} {next : Frame} (due : Bool) {latency guard : Nat}
    (h : c.presentation next = some presentation) (hlat : b.latCue = latency) (hguard : b.cfg.guard = guard) :
    b.schedule c next due =
      ⟨next, presentation - BitVec.ofNat 32 latency - BitVec.ofNat 32 guard, presentation - BitVec.ofNat 32 latency,
        due || past (presentation - BitVec.ofNat 32 latency - BitVec.ofNat 32 guard) c.cueTime⟩ := by
  subst hlat hguard
  exact schedule_of_presentation due h

end BoardPort

/-- The destinations whose instants are formed anew, in the terms of the statements. -/
theorem State.Follows.exists_retimed {s t : State} {c : Clock} {p : Port} {b : BoardPort}
    (h : Follows (fun e => Destination.Retimed c p b e.frame) s t) {e : Entry} (he : e ∈ s.queue)
    (ha : e.st = .active) {presentation : Instant} (hp : c.presentation e.frame = some presentation)
    {latency guard : Nat} (hlat : b.latEvent = latency) (hguard : b.cfg.guard = guard) :
    let latest := presentation - BitVec.ofNat 32 latency
    let release := latest - BitVec.ofNat 32 guard
    ∃ e' ∈ t.queue, e'.tag = e.tag ∧ e'.frame = e.frame ∧ ∀ d ∈ e.dests, d.port = p →
      (∀ r l, d.state = .waiting r l → reached release c.cueTime = false →
        ∃ d' ∈ e'.dests, d'.port = p ∧ d'.state = .waiting release latest) ∧
      (∀ l, d.state = .due l → d.starts = 0 → b.heldOff → past latest c.cueTime = false →
        ∃ d' ∈ e'.dests, d'.port = p ∧ d'.state = .due latest) := by
  intro latest release
  subst hlat hguard
  obtain ⟨e', he', hf⟩ := h.exists_entry he
  refine ⟨e', he', hf.tag, hf.frame, fun d hd hdp => ?_⟩
  obtain ⟨d', hd', hretimed⟩ := hf.exists_dest ha hd
  obtain ⟨hwait, hdue, -⟩ := hretimed hdp presentation hp
  refine ⟨fun r l hst hahead => ⟨d', hd', ?_⟩, fun l hst hstarts hheld hahead => ⟨d', hd', ?_⟩⟩
  · rw [hwait r l hst hahead]
    exact ⟨hdp, rfl⟩
  · rw [hdue l hst hstarts hheld hahead]
    exact ⟨hdp, rfl⟩

namespace State

variable {s : State} {p : Port}

theorem takeReport_of_echoReply {arrival : Instant} {number delay turnaround sum : Word} :
    s.takeReport p arrival [1, number, delay, turnaround, sum] =
      s.takeEchoReply p arrival number delay turnaround := by
  simp [takeReport]

theorem enterRunning_steady (p : Port) (s : State) : (s.port p).Steady ((s.enterRunning p).port p) := by
  unfold enterRunning
  split
  · rw [withPort_port_same]
    simp [BoardPort.activate, BoardPort.takeFirst, BoardPort.steady_iff]
  · exact .refl _

@[simp] theorem notePort_port (p : Port) (left : PortState) (cause : PortCause) (s : State) (q : Port) :
    (s.notePort p left cause).port q = s.port q := port_of_ports_eq (by simp) q

/-- The state after a reply taken, before what its latencies make due (R112, R115). -/
def echoAnswered (p : Port) (b : BoardPort) (s : State) : State :=
  let t := (s.withPort p b).relatency p
  (if (s.port p).st = .running then t else t.enterRunning p).notePort p (s.port p).st .echoAnswered

theorem takeEchoReply_of_matching {arrival sent : Instant} {number delay turnaround : Word}
    (h : (s.port p).echo.matching number = some sent) :
    s.takeEchoReply p arrival number delay turnaround =
      ((s.echoAnswered p
        { s.port p with st := .running, echo := (s.port p).echo.answered sent arrival delay turnaround }).finishLines).kick := by
  simp only [takeEchoReply, h]
  rfl

@[simp] theorem echoAnswered_frame (p : Port) (b : BoardPort) (s : State) :
    (s.echoAnswered p b).clock = s.clock ∧ (s.echoAnswered p b).ctrl = s.ctrl ∧
    (s.echoAnswered p b).channels = s.channels ∧ (s.echoAnswered p b).gens = s.gens ∧
    (s.echoAnswered p b).cab = s.cab ∧ (s.echoAnswered p b).discards = s.discards := by
  unfold echoAnswered
  dsimp only
  split <;> simp

theorem echoAnswered_steady (p : Port) (b : BoardPort) (s : State) :
    b.withLatencies.Steady ((s.echoAnswered p b).port p) := by
  have hport : ((s.withPort p b).relatency p).port p = b.relatent s.clock := by
    rw [relatency_port, if_pos rfl, withPort_port_same]
    rfl
  have hrelatent : b.withLatencies.Steady (((s.withPort p b).relatency p).port p) := by
    rw [hport]
    exact b.relatent_steady s.clock
  unfold echoAnswered
  dsimp only
  rw [notePort_port]
  split
  · exact hrelatent
  · exact hrelatent.trans (enterRunning_steady p _)

/-- A port that is RUNNING already has its instants formed anew, and no more. -/
theorem echoAnswered_of_running {b : BoardPort} (hst : (s.port p).st = .running) (hb : b.st = .running) :
    s.echoAnswered p b = (s.withPort p b).relatency p := by
  unfold echoAnswered
  dsimp only
  rw [if_pos hst, hst]
  refine if_pos ?_
  rw [relatency_port, if_pos rfl, withPort_port_same, (b.relatent_steady _).st]
  exact hb

/-- A port that becomes RUNNING leaves its PORT notice (R119). -/
theorem echoAnswered_portSlot {b : BoardPort} (hst : (s.port p).st ≠ .running) (hb : b.st = .running)
    (hbusy : s.link.tx ≠ .idle) :
    (s.echoAnswered p b).link.tx ≠ .idle ∧
    (s.echoAnswered p b).link.slots.port =
      placedOver s.link.slots.port ((s.echoAnswered p b).portNotice p (s.port p).st .echoAnswered) := by
  let v := ((s.withPort p b).relatency p).enterRunning p
  have hnotes : Notes [.outcomes] s v :=
    ((notes_relatency (s.withPort p b) p).after rfl).trans ((notes_enterRunning _ p).mono (by simp))
  have hvbusy := hnotes.busy hbusy
  have hv : s.echoAnswered p b = v.notePort p (s.port p).st .echoAnswered := by
    unfold echoAnswered
    dsimp only
    rw [if_neg hst]
  have hvst : (v.port p).st = .running := by
    have hsteady := echoAnswered_steady p b s
    rw [hv, notePort_port] at hsteady
    exact hsteady.st.trans hb
  have hplace : v.notePort p (s.port p).st .echoAnswered =
      v.placePort (v.portNotice p (s.port p).st .echoAnswered) := if_neg (by rw [hvst]; exact Ne.symm hst)
  have hnotice : (s.echoAnswered p b).portNotice p (s.port p).st .echoAnswered =
      v.portNotice p (s.port p).st .echoAnswered := by
    rw [hv]
    exact portNotice_of_ports p _ _ (by simp) (by simp)
  rw [hnotice, hv]
  refine ⟨(notes_notePort v _ _ _).busy hvbusy, ?_⟩
  rw [hplace, placePort_of_busy _ hvbusy, ← hnotes.port hbusy]

end State
end Sys2Proof.Machine

section
open Sys2Proof Sys2Proof.Machine

/-- Settles O33: the echo answered, the latencies by its delays, and the instants that they move (R112, R115,
R122, R132, R145). -/
theorem echoReplySetsTheDelays : Obligations.EchoReplySetsTheDelays := by
  unfold Obligations.EchoReplySetsTheDelays
  intro dt p span number delay turnaround s o hreset u b c hoff hinbound hopen hecho
  have hexec : exec c s = .next (u.takeEchoReply p (u.now - micro span) number delay turnaround) := by
    refine congrArg Host.Outcome.next ((outside_of_running dt _ hreset).trans ?_)
    refine (State.takeSummed_of_open (kind := 1) (fields := [number, delay, turnaround]) hoff hopen hinbound rfl).trans ?_
    exact State.takeReport_of_echoReply
  refine ⟨fun hnumber => ?_, fun sent hnumber hsent => ?_⟩
  · have hnone : (u.port p).echo.matching number = none := by
      have hecho' : (u.port p).echo.outstanding = some o := hecho
      simp only [EchoRecord.matching, hecho']
      exact if_neg (Ne.symm hnumber)
    rw [hexec]
    simp only [State.takeEchoReply, hnone]
  · intro trip declared lineDelay base latency
    have hmatching : (u.port p).echo.matching number = some sent := by
      have hecho' : (u.port p).echo.outstanding = some o := hecho
      simp only [EchoRecord.matching, hecho', if_pos hnumber.symm, hsent]
    rw [State.takeEchoReply_of_matching hmatching] at hexec
    refine ⟨_, hexec, ?_⟩
    have hline : EchoRecord.lineDelayOf trip turnaround.toNat = lineDelay := by
      simp only [EchoRecord.lineDelayOf, ceilDivInt, neg_sub]
      rfl
    set b₁ : BoardPort :=
      { b with st := .running, echo := b.echo.answered sent (u.now - micro span) delay turnaround } with hb₁
    have hlatency (payload : Nat) : b₁.latencyOf b₁.baseDelay payload = latency payload := by
      have hline' : b₁.echo.lineDelay = lineDelay := hline
      unfold BoardPort.latencyOf
      rw [hline']
      rfl
    have hlatCue : b₁.withLatencies.latCue = latency b.cfg.slots := hlatency b.cfg.slots
    have hlatEvent : b₁.withLatencies.latEvent = latency 4 := hlatency 4
    have hanswered := u.echoAnswered_steady p b₁
    have hframe := u.echoAnswered_frame p b₁
    have hsteady := hanswered.trans ((u.echoAnswered p b₁).finishLines_steady p)
    rw [State.kick_port]
    refine ⟨hsteady.st, hsteady.inbound.trans hinbound, ?_, fun hst hbusy => ?_,
      fun hst hchanged hheld sc presentation hsched hpresentation => ?_,
      fun hst hchanged e he ha presentation hpresentation => ?_, hsteady.latCue.trans hlatCue,
      hsteady.latEvent.trans hlatEvent, hsteady.rxErrors, by simp, by simp, by simp, by simp, by simp, by simp⟩
    · rw [hsteady.echo]
      change b.echo.answered sent (u.now - micro span) delay turnaround = _
      unfold EchoRecord.answered
      rw [← hline]
      rfl
    · obtain ⟨hvbusy, hslot⟩ := State.echoAnswered_portSlot (p := p) (b := b₁) hst rfl hbusy
      generalize u.echoAnswered p b₁ = v at hanswered hframe hvbusy hslot
      have hfinish := v.notes_finishLines
      rw [(State.notes_kick _ []).port (hfinish.busy hvbusy), hfinish.port hvbusy, hslot]
      congr 1
      refine State.portNotice_eq_portChange (fun q => ?_) (by simp) hanswered.st ?_ ?_
      · rw [State.kick_port]
        exact (v.finishLines_steady q).st
      · rw [hanswered.echo]
        exact hline
      · rw [hanswered.echo]
        rfl
    · intro latest release hahead
      have hv : u.echoAnswered p b₁ = (u.withPort p b₁).relatency p := State.echoAnswered_of_running hst rfl
      have hport : (u.echoAnswered p b₁).port p = b₁.relatent u.clock := by
        rw [hv, State.relatency_port, if_pos rfl, State.withPort_port_same]
        rfl
      have hsc : ((u.echoAnswered p b₁).port p).sched =
          some ⟨sc.next, release, latest, sc.due || past release u.now⟩ := by
        rw [hport, BoardPort.relatent_sched (b := b₁) hsched (by rw [hlatCue]; exact hchanged),
          BoardPort.schedule_eq (b := b₁.withLatencies) sc.due hpresentation hlatCue rfl]
        rfl
      have hheld' : ((u.echoAnswered p b₁).port p).heldOff := by
        rw [hport, BoardPort.heldOff_relatent]
        exact hheld
      have hnow : (u.echoAnswered p b₁).now = u.now := congrArg Clock.cueTime hframe.1
      rw [(State.finishLines_sched_of_heldOff hheld' fun sc' hsc' => ?_).1, hsc]
      rw [hsc] at hsc'
      cases hsc'
      rw [hnow]
      exact hahead
    · have hv : u.echoAnswered p b₁ = (u.withPort p b₁).relatency p := State.echoAnswered_of_running hst rfl
      have hport : (u.withPort p b₁).port p = b₁ := State.withPort_port_same ..
      have hretimed := State.retimed_relatency (s := u.withPort p b₁) (p := p)
        (by rw [hport, hlatEvent]; exact hchanged)
      rw [hport, ← hv] at hretimed
      have hnow : (u.echoAnswered p b₁).now = u.now := congrArg Clock.cueTime hframe.1
      have hall := hretimed.retimed_finish (u := ((u.echoAnswered p b₁).finishLines).kick) (by simp) hnow
        fun hheld => by
          rw [hv, State.relatency_port, if_pos rfl, hport, BoardPort.heldOff_relatent]
          exact hheld
      exact hall.exists_retimed he ha hpresentation hlatEvent rfl

end

/-! ### SET_PORT (R97, R98, R122) -/

namespace Sys2Proof.Machine

namespace PortConfig

/-- The coded fields of the merged record; none when the request's code names no value. -/
def mergedEnable (q : PortRequest) (c : PortConfig) : Option Bool := pick q.mask 0 (flagOf q.enable) (some c.enable)

def mergedEssential (q : PortRequest) (c : PortConfig) : Option Bool :=
  pick q.mask 1 (flagOf q.essential) (some c.essential)

def mergedSource (q : PortRequest) (c : PortConfig) : Option LatencySource :=
  pick q.mask 6 (latencySourceOf q.latencySource) (some c.latencySource)

/-- The merged record of R97, before its check; a coded field that is none stays as held. -/
def merged (q : PortRequest) (c : PortConfig) : PortConfig where
  enable := (c.mergedEnable q).getD c.enable
  essential := (c.mergedEssential q).getD c.essential
  slots := pick q.mask 2 q.slots.toNat c.slots
  width := pick q.mask 3 q.width.toNat c.width
  beatPeriod := pick q.mask 4 q.beatPeriod.toNat c.beatPeriod
  leadSlot := pick q.mask 5 q.leadSlot.toNat c.leadSlot
  latencySource := (c.mergedSource q).getD c.latencySource
  fixedLatency := pick q.mask 7 q.fixedLatency.toNat c.fixedLatency
  guard := pick q.mask 8 q.guard.toNat c.guard
  echoInterval := pick q.mask 9 q.echoInterval.toNat c.echoInterval
  skipLimit := pick q.mask 10 q.skipLimit.toNat c.skipLimit

/-- Every field of the merged record is in range. -/
def mergeFits (q : PortRequest) (p : Port) (c : PortConfig) : Prop :=
  c.mergedEnable q ≠ none ∧ c.mergedEssential q ≠ none ∧ c.mergedSource q ≠ none ∧ (c.merged q).inRange p = true

variable {q : PortRequest} {p : Port} {c : PortConfig}

theorem merge_of_fits (h : c.mergeFits q p) : c.merge q p = some (c.merged q) := by
  obtain ⟨henable, hessential, hsource, hrange⟩ := h
  obtain ⟨enable, he⟩ := Option.ne_none_iff_exists'.mp henable
  obtain ⟨essential, hs⟩ := Option.ne_none_iff_exists'.mp hessential
  obtain ⟨source, hl⟩ := Option.ne_none_iff_exists'.mp hsource
  simp only [merged, he, hs, hl, Option.getD_some] at hrange ⊢
  unfold mergedEnable at he
  unfold mergedEssential at hs
  unfold mergedSource at hl
  simp only [merge, he, hs, hl, hrange, if_true]

theorem merge_of_not_fits (h : ¬c.mergeFits q p) : c.merge q p = none := by
  unfold merge
  split
  · next enable essential source henable hessential hsource =>
    have he : c.mergedEnable q = some enable := henable
    have hs : c.mergedEssential q = some essential := hessential
    have hl : c.mergedSource q = some source := hsource
    refine if_neg fun hrange => h ⟨by simp [he], by simp [hs], by simp [hl], ?_⟩
    simpa [merged, he, hs, hl] using hrange
  · rfl

end PortConfig

theorem portNamesFixed_iff (q : PortRequest) :
    PortRequest.namesFixed q = true ↔
      q.mask.getLsbD 0 = true ∨ q.mask.getLsbD 1 = true ∨ q.mask.getLsbD 2 = true ∨
        q.mask.getLsbD 3 = true ∨ q.mask.getLsbD 4 = true ∨ q.mask.getLsbD 5 = true := by
  simp only [PortRequest.namesFixed, Bool.or_eq_true, or_assoc]

namespace Destination

/-- The instants of a destination see a port's latency, its guard and its line alone. -/
theorem Retimed.congr {c : Clock} {p : Port} {b b' : BoardPort} {f : Frame} {d d' : Destination}
    (hlat : b'.latEvent = b.latEvent) (hguard : b'.cfg.guard = b.cfg.guard) (hheld : b'.heldOff ↔ b.heldOff)
    (h : d.Retimed c p b f d') : d.Retimed c p b' f d' := by
  intro hp presentation hpresentation
  have hrelease : b'.eventRelease presentation = b.eventRelease presentation := by
    rw [BoardPort.eventRelease, BoardPort.eventRelease, hlat, hguard]
  have hlatest : b'.eventLatest presentation = b.eventLatest presentation := by
    rw [BoardPort.eventLatest, BoardPort.eventLatest, hlat]
  rw [hrelease, hlatest, hheld]
  exact h hp presentation hpresentation

end Destination

namespace State

variable {s : State} {p : Port} {q : PortRequest}

/-! #### The three steps of R97 -/

theorem ownSetPort_of_bad_mask (h : 2048 ≤ q.mask.toNat) :
    s.ownSetPort q = ⟨s, .badValue, s.portConfigBody q.port⟩ := by
  have hmask : maskFits q.mask 11 = false := by
    rw [← Bool.not_eq_true, maskFits_iff]
    omega
  simp [ownSetPort, hmask]

theorem ownSetPort_of_no_port (h : portOf q.port = none) :
    s.ownSetPort q = ⟨s, .badValue, .portConfig q.port none⟩ := by
  simp [ownSetPort, portConfigBody, h]

theorem portConfigBody_of_port (h : portOf q.port = some p) :
    s.portConfigBody q.port = .portConfig q.port (some (s.port p).cfg) := by
  simp [portConfigBody, h]

section
variable (hp : portOf q.port = some p) (hmask : q.mask.toNat < 2048)
include hp hmask

theorem ownSetPort_of_wrongState (hst : s.ctrl.st ≠ .setup) (hfixed : PortRequest.namesFixed q = true) :
    s.ownSetPort q = ⟨s, .wrongState, .portConfig q.port (some (s.port p).cfg)⟩ := by
  have hfits : maskFits q.mask 11 = true := (maskFits_iff _ _).mpr hmask
  simp [ownSetPort, hfits, hp, hst, hfixed, portConfigBody]

theorem ownSetPort_of_not_fits (hst : s.ctrl.st = .setup ∨ ¬PortRequest.namesFixed q = true)
    (h : ¬(s.port p).cfg.mergeFits q p) :
    s.ownSetPort q = ⟨s, .badValue, .portConfig q.port (some (s.port p).cfg)⟩ := by
  have hfits : maskFits q.mask 11 = true := (maskFits_iff _ _).mpr hmask
  have hpass : ¬(s.ctrl.st ≠ .setup ∧ PortRequest.namesFixed q = true) := by tauto
  simp [ownSetPort, hfits, hp, hpass, PortConfig.merge_of_not_fits h, portConfigBody]

theorem ownSetPort_of_fits (hst : s.ctrl.st = .setup ∨ ¬PortRequest.namesFixed q = true)
    (h : (s.port p).cfg.mergeFits q p) :
    s.ownSetPort q =
      let t := s.writePort p ((s.port p).cfg.merged q)
      ⟨t, .ok, .portConfig q.port (some (t.port p).cfg)⟩ := by
  have hfits : maskFits q.mask 11 = true := (maskFits_iff _ _).mpr hmask
  have hpass : ¬(s.ctrl.st ≠ .setup ∧ PortRequest.namesFixed q = true) := by tauto
  simp [ownSetPort, hfits, hp, hpass, PortConfig.merge_of_fits h, portConfigBody]

end

/-! #### The write of a changed record -/

/-- The port takes this record, and with it its latencies and instants (R98, R122). -/
def reconfigured (p : Port) (m : PortConfig) (s : State) : State :=
  let t := (s.withPort p { s.port p with cfg := m }).relatency p
  if m.guard = (s.port p).cfg.guard then t else t.reguard p

theorem writePort_of_eq {m : PortConfig} (h : m = (s.port p).cfg) : s.writePort p m = s := if_pos h

theorem writePort_of_ne {m : PortConfig} (h : m ≠ (s.port p).cfg) :
    s.writePort p m = (s.reconfigured p m).finishLines := if_neg h

variable {m : PortConfig}

@[simp] theorem reconfigured_frame (p : Port) (m : PortConfig) (s : State) :
    (s.reconfigured p m).clock = s.clock ∧ (s.reconfigured p m).ctrl = s.ctrl ∧
    (s.reconfigured p m).channels = s.channels ∧ (s.reconfigured p m).gens = s.gens ∧
    (s.reconfigured p m).cab = s.cab ∧ (s.reconfigured p m).discards = s.discards ∧
    (s.reconfigured p m).link.replies = s.link.replies := by
  unfold reconfigured
  dsimp only
  split <;> simp

section
variable (p m s)

/-- The port with the record, before its latencies are formed. -/
abbrev withConfig : BoardPort := { s.port p with cfg := m }

theorem relatency_withConfig_port :
    ((s.withPort p (s.withConfig p m)).relatency p).port p = (s.withConfig p m).relatent s.clock := by
  rw [relatency_port, if_pos rfl, withPort_port_same]
  rfl

theorem reconfigured_port_other {q : Port} (hq : q ≠ p) : (s.reconfigured p m).port q = s.port q := by
  unfold reconfigured
  dsimp only
  split
  · rw [relatency_port, if_neg hq, withPort_port, if_neg hq]
  · rw [reguard_port, if_neg hq, relatency_port, if_neg hq, withPort_port, if_neg hq]

theorem reconfigured_port :
    (s.reconfigured p m).port p =
      if m.guard = (s.port p).cfg.guard then (s.withConfig p m).relatent s.clock
      else ((s.withConfig p m).relatent s.clock).reform s.clock := by
  have hport := s.relatency_withConfig_port p m
  unfold reconfigured
  dsimp only
  split
  · exact hport
  · rw [reguard_port, if_pos rfl, hport]
    simp

theorem reconfigured_steady : (s.withConfig p m).withLatencies.Steady ((s.reconfigured p m).port p) := by
  have hrelatent := (s.withConfig p m).relatent_steady s.clock
  rw [reconfigured_port]
  split
  · exact hrelatent
  · exact hrelatent.trans (BoardPort.reform_steady s.clock _)

theorem heldOff_reconfigured : ((s.reconfigured p m).port p).heldOff ↔ (s.port p).heldOff := by
  have hrelatent : ((s.withConfig p m).relatent s.clock).heldOff ↔ (s.port p).heldOff :=
    BoardPort.heldOff_relatent s.clock _
  rw [reconfigured_port]
  split
  · exact hrelatent
  · rw [BoardPort.heldOff_reform, hrelatent]

end

/-- N_b takes its instants anew when the guard or the latency has changed (R122, R132). -/
theorem reconfigured_sched {sc : Schedule} {presentation : Instant} (hsched : (s.port p).sched = some sc)
    (hp : s.clock.presentation sc.next = some presentation)
    (hchanged : m.guard ≠ (s.port p).cfg.guard ∨ (s.withConfig p m).withLatencies.latCue ≠ (s.port p).latCue) :
    ((s.reconfigured p m).port p).sched =
      some ((s.withConfig p m).withLatencies.schedule s.clock sc.next sc.due) := by
  have hsched' : (s.withConfig p m).sched = some sc := hsched
  rw [reconfigured_port]
  by_cases hlat : (s.withConfig p m).withLatencies.latCue = (s.withConfig p m).latCue
  · have hguard : m.guard ≠ (s.port p).cfg.guard := hchanged.resolve_right (not_not.mpr hlat)
    have hrelatent : (s.withConfig p m).relatent s.clock = (s.withConfig p m).withLatencies := if_pos hlat
    rw [if_neg hguard, hrelatent]
    exact BoardPort.reform_sched (b := (s.withConfig p m).withLatencies) hsched
  · have hrelatent := BoardPort.relatent_sched (c := s.clock) hsched' hlat
    have hsteady := (s.withConfig p m).relatent_steady s.clock
    split
    · exact hrelatent
    · rw [BoardPort.reform_sched hrelatent]
      exact congrArg some (BoardPort.schedule_again sc.due hp hsteady.latCue
        (congrArg PortConfig.guard hsteady.cfg))

/-- So do the destinations on the port (R122, R145, R147). -/
theorem retimed_reconfigured
    (hchanged : m.guard ≠ (s.port p).cfg.guard ∨
      (s.withConfig p m).withLatencies.latEvent ≠ (s.port p).latEvent) :
    Follows (fun e => Destination.Retimed s.clock p (s.withConfig p m).withLatencies e.frame) s
      (s.reconfigured p m) := by
  let u := s.withPort p (s.withConfig p m)
  have huport : u.port p = s.withConfig p m := withPort_port_same ..
  have hport : (u.relatency p).port p = (s.withConfig p m).relatent s.clock := s.relatency_withConfig_port p m
  have hclock : (u.relatency p).clock = s.clock := by simp [u]
  have hsteady := (s.withConfig p m).relatent_steady s.clock
  have hheld : ((u.relatency p).port p).heldOff ↔ (s.withConfig p m).withLatencies.heldOff := by
    rw [hport, BoardPort.heldOff_relatent]
    rfl
  by_cases hlat : (s.withConfig p m).withLatencies.latEvent = (s.withConfig p m).latEvent
  · have hguard : m.guard ≠ (s.port p).cfg.guard := hchanged.resolve_right (not_not.mpr hlat)
    have hqueue : (u.relatency p).queue = s.queue := relatency_queue (s := u) (by rw [huport]; exact hlat)
    have hreguard := (retimed_reguard p (u.relatency p)).mono
      (S := fun e => Destination.Retimed s.clock p (s.withConfig p m).withLatencies e.frame)
      fun e d d' h => by
        rw [hclock] at h
        exact h.congr (by rw [hport, hsteady.latEvent]) (by rw [hport, hsteady.cfg]) hheld.symm
    have hre : s.reconfigured p m = (u.relatency p).reguard p := if_neg hguard
    unfold Follows at hreguard ⊢
    rwa [hqueue, ← hre] at hreguard
  · have hrelatency := retimed_relatency (s := u) (p := p) (by rw [huport]; exact hlat)
    rw [huport] at hrelatency
    by_cases hguard : m.guard = (s.port p).cfg.guard
    · have hre : s.reconfigured p m = u.relatency p := if_pos hguard
      rw [hre]
      exact hrelatency
    · have hre : s.reconfigured p m = (u.relatency p).reguard p := if_neg hguard
      let w := (u.relatency p).withPort p (((u.relatency p).port p).reform (u.relatency p).clock)
      have hwport : w.port p = ((u.relatency p).port p).reform (u.relatency p).clock := withPort_port_same ..
      have hwsteady := BoardPort.reform_steady (u.relatency p).clock ((u.relatency p).port p)
      rw [hre]
      refine (Follows.trans_frame (Destination.Again w) (Destination.Again.refl w) hrelatency
        (again_reguard p (u.relatency p))).mono fun e d d'' ⟨d', hd, hagain⟩ => ?_
      refine hd.again (u := w) hclock ?_ ?_ hagain
      · rw [hwport, hwsteady.latEvent, hport, hsteady.latEvent]
      · rw [hwport, hwsteady.cfg, hport, hsteady.cfg]

end State
end Sys2Proof.Machine

section
open Sys2Proof Sys2Proof.Machine

/-- Settles O29: the three steps of R97, and the latencies and instants that the record moves (R98, R122). -/
theorem setPortUpdatesTheConfiguration : Obligations.SetPortUpdatesTheConfiguration := by
  unfold Obligations.SetPortUpdatesTheConfiguration
  intro dt tag q s hroom u c
  have hexec {a : Answer} (h : u.ownSetPort q = a) : exec c s = .next (a.state.replied 0x87 tag a.result a.body) :=
    next_request (kind := 0x07) hroom h
  refine ⟨fun hno => hexec (State.ownSetPort_of_no_port hno), fun p hp => ?_⟩
  intro b held refused fixedNamed enable essential source m most inRange base latency
  have hfixed : PortRequest.namesFixed q = true ↔ fixedNamed := portNamesFixed_iff q
  have hfits : held.mergeFits q p ↔ inRange := by
    have hmost : maxSlots p = most := by cases p <;> rfl
    have hrange : (held.merged q).inRange p = true ↔
        1 ≤ m.slots ∧ m.slots ≤ most ∧
          (m.width = 1 ∨ m.width = 2 ∨ m.width = 4) ∧ 1 ≤ m.beatPeriod ∧ m.beatPeriod ≤ 16 ∧
          m.leadSlot < m.slots ∧ m.fixedLatency ≤ 60000 ∧ m.guard ≤ 2000 ∧ 1 ≤ m.echoInterval ∧
          m.echoInterval ≤ 255 ∧ 1 ≤ m.skipLimit ∧ m.skipLimit ≤ 15 := by
      unfold PortConfig.inRange
      rw [decide_eq_true_iff, hmost]
      rfl
    exact and_congr_right fun _ => and_congr_right fun _ => and_congr_right fun _ => hrange
  refine ⟨fun hmask => ?_, fun hmask hst hnamed => ?_,
    fun hmask hst => ⟨fun hbad => ?_, fun hin hsame => ?_, fun hin hne => ?_⟩⟩
  · exact hexec ((State.ownSetPort_of_bad_mask hmask).trans (by rw [State.portConfigBody_of_port hp]))
  · exact hexec (State.ownSetPort_of_wrongState hp hmask hst (hfixed.mpr hnamed))
  · exact hexec (State.ownSetPort_of_not_fits hp hmask (by rwa [hfixed]) (hbad ∘ hfits.mp))
  · have howner := State.ownSetPort_of_fits hp hmask (by rwa [hfixed]) (hfits.mpr hin)
    dsimp only at howner
    rw [State.writePort_of_eq (m := (u.port p).cfg.merged q) hsame] at howner
    exact hexec howner
  · have howner := State.ownSetPort_of_fits hp hmask (by rwa [hfixed]) (hfits.mpr hin)
    dsimp only at howner
    rw [State.writePort_of_ne (m := (u.port p).cfg.merged q) hne] at howner
    have hsteady : (u.withConfig p m).withLatencies.Steady ((u.reconfigured p m).finishLines.port p) :=
      (u.reconfigured_steady p m).trans (State.finishLines_steady _ p)
    have hlatCue : (u.withConfig p m).withLatencies.latCue = latency m.slots := rfl
    have hlatEvent : (u.withConfig p m).withLatencies.latEvent = latency 4 := rfl
    have hreplies : (u.reconfigured p m).finishLines.link.replies = u.link.replies := by simp
    have hcfg : ((u.reconfigured p m).finishLines.port p).cfg = m := hsteady.cfg
    have hnow : (u.reconfigured p m).now = u.now := congrArg Clock.cueTime (u.reconfigured_frame p m).1
    have howner' : u.ownSetPort q =
        ⟨(u.reconfigured p m).finishLines, .ok, .portConfig q.port (some m)⟩ :=
      howner.trans (congrArg
        (fun cfg => (⟨(u.reconfigured p m).finishLines, .ok, .portConfig q.port (some cfg)⟩ : Answer)) hcfg)
    have hport := State.replied_port 0x87 tag .ok (.portConfig q.port (some m)) (u.reconfigured p m).finishLines
    refine ⟨_, hexec howner', (congrArg BoardPort.cfg (hport p)).trans hcfg,
      (congrArg BoardPort.latCue (hport p)).trans (hsteady.latCue.trans hlatCue),
      (congrArg BoardPort.latEvent (hport p)).trans (hsteady.latEvent.trans hlatEvent),
      (congrArg BoardPort.st (hport p)).trans hsteady.st, (congrArg BoardPort.echo (hport p)).trans hsteady.echo,
      (congrArg BoardPort.window (hport p)).trans hsteady.window, fun p' hp' => ?_, by simp, by simp, by simp, by simp, by simp, by simp, ?_,
      fun sc presentation hchanged hsched hpresentation hheld => ?_,
      fun hchanged e he ha presentation hpresentation => ?_⟩
    · rw [hport, ((u.reconfigured p m).finishLines_steady p').cfg, u.reconfigured_port_other p m hp']
    · rw [State.replied_replies, hreplies]
    · intro latest release hahead
      have hsc : ((u.reconfigured p m).port p).sched =
          some ⟨sc.next, release, latest, sc.due || past release u.now⟩ := by
        rw [State.reconfigured_sched hsched hpresentation hchanged]
        exact congrArg some (BoardPort.schedule_eq (b := (u.withConfig p m).withLatencies) sc.due hpresentation
          hlatCue rfl)
      rw [hport, (State.finishLines_sched_of_heldOff ((u.heldOff_reconfigured p m).mpr hheld) fun sc' hsc' => ?_).1, hsc]
      rw [hsc] at hsc'
      cases hsc'
      rw [hnow]
      exact hahead
    · have hall := (State.retimed_reconfigured hchanged).retimed_finish
        (u := (u.reconfigured p m).finishLines.replied 0x87 tag .ok (.portConfig q.port (some m))) (by simp) hnow
        fun hheld => (u.heldOff_reconfigured p m).mpr hheld
      exact hall.exists_retimed he ha hpresentation hlatEvent rfl

end

/-! ### INPUT outside PAUSED (R88, R160 to R164) -/

namespace Sys2Proof.Machine

namespace TriggerType

/-- Whether a line of this type stamps a report in which it goes from `old` to `new` (R161). -/
def stamps (old new : Bool) : TriggerType → Bool
  | .none => false
  | .rising | .high => !old && new
  | .falling | .low => old && !new
  | .either => old != new

/-- Whether a line of this type offers its trigger in that report (R162). -/
def triggers (old new : Bool) : TriggerType → Bool
  | .high => new
  | .low => !new
  | type => type.stamps old new

end TriggerType

/-- The edge of a line that has changed to `new`. -/
def edgeTo (new : Bool) : EdgeKind := if new then .rising else .falling

theorem qualifies_edgeOf (type : TriggerType) (previous new : Word) (line : Fin 16) :
    type.qualifies (edgeOf previous new line) =
      if type.stamps (bitOf previous line) (bitOf new line) then some (edgeTo (bitOf new line)) else none := by
  unfold edgeOf
  cases bitOf previous line <;> cases bitOf new line <;> cases type <;> rfl

theorem offers_edgeOf (type : TriggerType) (previous new : Word) (line : Fin 16) :
    type.offers (edgeOf previous new line) (bitOf new line) =
      type.triggers (bitOf previous line) (bitOf new line) := by
  unfold edgeOf
  cases bitOf previous line <;> cases bitOf new line <;> cases type <;> rfl

/-! #### The generators that a report triggers (R88) -/

namespace Generator

theorem trigger_of_started {g : Generator} (t : Instant) (h : ¬(g.mode = .oneShot ∧ g.runState = .idle)) :
    g.trigger t = g := if_neg h

/-- The generator offered the triggers of these lines in turn. -/
def offered (t : Instant) (lines : List (Fin 16)) (g : Generator) : Generator :=
  lines.foldl (fun g i => if g.triggerLine.toNat = i.val then g.trigger t else g) g

theorem offered_of_started {g : Generator} (t : Instant) (lines : List (Fin 16))
    (h : ¬(g.mode = .oneShot ∧ g.runState = .idle)) : g.offered t lines = g := by
  unfold offered
  induction lines with
  | nil => rfl
  | cons i lines ih => rwa [List.foldl_cons, trigger_of_started t h, ite_self]

/-- The first trigger on its line starts an idle one-shot generator, and later ones find it started. -/
theorem offered_of_idle {g : Generator} (t : Instant) (lines : List (Fin 16)) (hmode : g.mode = .oneShot)
    (hidle : g.runState = .idle) :
    g.offered t lines =
      if lines.any fun i => decide (g.triggerLine.toNat = i.val) then
        { g with runState := .pulse, triggerAt := some t }
      else g := by
  induction lines with
  | nil => rfl
  | cons i lines ih =>
    by_cases hline : g.triggerLine.toNat = i.val
    · have hfirst : g.offered t (i :: lines) =
          ({ g with runState := .pulse, triggerAt := some t } : Generator).offered t lines := by
        simp [offered, hline, trigger, hmode, hidle]
      rw [hfirst, offered_of_started t lines (by simp)]
      simp [hline]
    · have hskip : g.offered t (i :: lines) = g.offered t lines := by simp [offered, hline]
      rw [hskip, ih]
      simp [hline]

end Generator

namespace State

/-! #### The stamps of a report -/

/-- The stamps of these lines, written in turn. -/
def writeLines (new : Word) (t : Instant) (lines : List (Fin 16)) (s : State) : State :=
  lines.foldl (fun s i => s.writeStamp (.cabLine i) (edgeTo (bitOf new i)) t) s

@[simp] theorem writeLines_nil (new : Word) (t : Instant) (s : State) : s.writeLines new t [] = s := rfl

@[simp] theorem writeLines_cons (new : Word) (t : Instant) (i : Fin 16) (lines : List (Fin 16)) (s : State) :
    s.writeLines new t (i :: lines) =
      (s.writeStamp (.cabLine i) (edgeTo (bitOf new i)) t).writeLines new t lines := rfl

variable {s : State}

theorem writeStamp_withGens (source : StampSource) (edge : EdgeKind) (t : Instant) (gens : Vector Generator 4) :
    (s.withGens gens).writeStamp source edge t = (s.writeStamp source edge t).withGens gens := by
  by_cases hfull : 32 ≤ s.cab.fifo.length
  · rw [writeStamp_of_full _ _ _ hfull, writeStamp_of_full _ _ _ (by exact hfull)]
    rfl
  · rw [writeStamp_of_room _ _ _ (by exact Nat.lt_of_not_le hfull), writeStamp_of_room _ _ _ (by omega)]
    by_cases hempty : s.cab.fifo = []
    · rw [if_pos hempty, if_pos (by exact hempty)]
      rfl
    · rw [if_neg hempty, if_neg (by exact hempty)]
      rfl

/-- A stamp moves the FIFO and the gap mark of the cab input unit alone. -/
theorem writeStamp_cab (source : StampSource) (edge : EdgeKind) (t : Instant) (s : State) :
    ∃ fifo gap, (s.writeStamp source edge t).cab = { s.cab with fifo := fifo, gapPending := gap } := by
  by_cases hfull : 32 ≤ s.cab.fifo.length
  · rw [writeStamp_of_full _ _ _ hfull]
    exact ⟨_, _, rfl⟩
  · rw [writeStamp_of_room _ _ _ (by omega)]
    split_ifs
    all_goals exact ⟨_, _, rfl⟩

/-- Into a FIFO that holds a stamp the next one goes without a notice (R181). -/
theorem writeStamp_of_nonempty (source : StampSource) (edge : EdgeKind) (t : Instant) (h : s.cab.fifo ≠ []) :
    (s.writeStamp source edge t).cab.fifo ≠ [] ∧ (s.writeStamp source edge t).link = s.link := by
  by_cases hfull : 32 ≤ s.cab.fifo.length
  · rw [writeStamp_of_full _ _ _ hfull]
    exact ⟨h, rfl⟩
  · rw [writeStamp_of_room _ _ _ (by omega), if_neg h]
    exact ⟨by simp [stamped], rfl⟩

theorem writeStamp_fifo_of_room (source : StampSource) (edge : EdgeKind) (t : Instant)
    (h : s.cab.fifo.length < 32) :
    (s.writeStamp source edge t).cab.fifo = s.cab.fifo ++ [s.stampAt source edge t] := by
  rw [writeStamp_of_room _ _ _ h]
  split_ifs
  all_goals simp [stamped]

/-- The first stamp of an empty FIFO places its notice (R181). -/
theorem writeStamp_stampsSlot_of_empty (source : StampSource) (edge : EdgeKind) (t : Instant)
    (h : s.cab.fifo = []) (hbusy : s.link.tx ≠ .idle) :
    (s.writeStamp source edge t).link.slots.stamps =
      placedOver s.link.slots.stamps ⟨s.stampAt source edge t, 1, s.clock.current⟩ := by
  rw [writeStamp_of_room _ _ _ (by simp [h]), if_pos h, placeStamps_of_busy _ (by exact hbusy)]
  rfl

theorem writeLines_cab (new : Word) (t : Instant) (lines : List (Fin 16)) (s : State) :
    ∃ fifo gap, (s.writeLines new t lines).cab = { s.cab with fifo := fifo, gapPending := gap } := by
  induction lines generalizing s with
  | nil => exact ⟨_, _, rfl⟩
  | cons i lines ih =>
    obtain ⟨fifo, gap, hcab⟩ := ih (s.writeStamp (.cabLine i) (edgeTo (bitOf new i)) t)
    obtain ⟨_, _, hfirst⟩ := writeStamp_cab (.cabLine i) (edgeTo (bitOf new i)) t s
    rw [hfirst] at hcab
    exact ⟨fifo, gap, hcab⟩

theorem writeLines_link_of_nonempty (new : Word) (t : Instant) (lines : List (Fin 16)) (h : s.cab.fifo ≠ []) :
    (s.writeLines new t lines).link = s.link := by
  induction lines generalizing s with
  | nil => rfl
  | cons i lines ih =>
    obtain ⟨hfifo, hlink⟩ := writeStamp_of_nonempty (.cabLine i) (edgeTo (bitOf new i)) t h
    exact (ih hfifo).trans hlink

theorem writeLines_link_of_empty (new : Word) (t : Instant) (i : Fin 16) (lines : List (Fin 16))
    (h : s.cab.fifo = []) :
    (s.writeLines new t (i :: lines)).link = (s.writeStamp (.cabLine i) (edgeTo (bitOf new i)) t).link := by
  refine writeLines_link_of_nonempty new t lines ?_
  simp [writeStamp_fifo_of_room (s := s) _ _ t (by simp [h])]

theorem notes_writeLines (new : Word) (t : Instant) (lines : List (Fin 16)) (s : State) :
    Notes [.stamps] s (s.writeLines new t lines) := by
  induction lines generalizing s with
  | nil => exact .refl _ _
  | cons i lines ih => exact (notes_writeStamp _ _ _ _).trans (ih _)

/-- With room for all of them the stamps follow those held, in line order (R164). -/
theorem writeLines_fifo_of_room (new : Word) (t : Instant) (lines : List (Fin 16)) (s : State)
    (h : s.cab.fifo.length + lines.length ≤ 32) :
    (s.writeLines new t lines).cab.fifo.map (fun x => (x.source, x.edge, x.frame, x.offset)) =
      s.cab.fifo.map (fun x => (x.source, x.edge, x.frame, x.offset)) ++
        lines.map fun i =>
          (.cabLine i, edgeTo (bitOf new i), (s.clock.locate t).1, (s.clock.locate t).2) := by
  induction lines generalizing s with
  | nil => simp
  | cons i lines ih =>
    rw [List.length_cons] at h
    have hfifo := writeStamp_fifo_of_room (s := s) (.cabLine i) (edgeTo (bitOf new i)) t (by omega)
    refine (ih (s.writeStamp (.cabLine i) (edgeTo (bitOf new i)) t) ?_).trans ?_
    · rw [hfifo, List.length_append, List.length_singleton]
      omega
    · rw [hfifo]
      simp [stampAt]

theorem writeLines_withGens (new : Word) (t : Instant) (lines : List (Fin 16)) (s : State)
    (gens : Vector Generator 4) :
    (s.withGens gens).writeLines new t lines = (s.writeLines new t lines).withGens gens := by
  induction lines generalizing s with
  | nil => rfl
  | cons i lines ih =>
    rw [writeLines_cons, writeLines_cons, writeStamp_withGens, ih]

/-! #### The lines of a report -/

theorem mapTable_mapTable {α β γ : Type} {n : Nat} (f : α → β) (g : β → γ) (v : Vector α n) :
    mapTable g (mapTable f v) = mapTable (g ∘ f) v := by
  ext i hi
  simp

/-- One line of the report: its stamp, and the offer of its trigger. -/
theorem takeLine_eq (previous new : Word) (t : Instant) (s : State) (i : Fin 16) :
    s.takeLine previous new t i =
      (if (s.cab.triggers[i]).stamps (bitOf previous i) (bitOf new i) then
          s.writeStamp (.cabLine i) (edgeTo (bitOf new i)) t
        else s).withGens
        (if (s.cab.triggers[i]).triggers (bitOf previous i) (bitOf new i) then
          mapTable (fun g => if g.triggerLine.toNat = i.val then g.trigger t else g) s.gens
        else s.gens) := by
  have hgens (x : StampSource) (e : EdgeKind) : s.writeStamp x e t = (s.writeStamp x e t).withGens s.gens :=
    writeStamp_withGens x e t s.gens
  by_cases hstamp : (s.cab.triggers[i]).stamps (bitOf previous i) (bitOf new i) = true <;>
    by_cases hoffer : (s.cab.triggers[i]).triggers (bitOf previous i) (bitOf new i) = true
  all_goals simp only [takeLine, qualifies_edgeOf, offers_edgeOf, hstamp, hoffer, if_true, if_false,
    Bool.false_eq_true]
  · simp [offerTrigger]
  · exact hgens _ _
  · rfl
  · rfl

/-- The lines of the report, stamps and triggers apart. -/
theorem takeLines_eq {previous new : Word} {t : Instant} (types : Vector TriggerType 16)
    (lines : List (Fin 16)) (s : State) (htypes : s.cab.triggers = types) :
    let stamps (i : Fin 16) : Bool := types[i].stamps (bitOf previous i) (bitOf new i)
    let triggers (i : Fin 16) : Bool := types[i].triggers (bitOf previous i) (bitOf new i)
    lines.foldl (takeLine previous new t) s =
      (s.writeLines new t (lines.filter stamps)).withGens
        (mapTable (Generator.offered t (lines.filter triggers)) s.gens) := by
  intro stamps triggers
  induction lines generalizing s with
  | nil =>
    have hself : mapTable (Generator.offered t []) s.gens = s.gens := by
      ext i hi : 1
      rw [mapTable_getElem]
      rfl
    rw [List.filter_nil, List.filter_nil, hself]
    rfl
  | cons i lines ih =>
    have htake : s.takeLine previous new t i =
        (if stamps i then s.writeStamp (.cabLine i) (edgeTo (bitOf new i)) t else s).withGens
          (if triggers i then mapTable (fun g => if g.triggerLine.toNat = i.val then g.trigger t else g) s.gens
            else s.gens) := by
      rw [takeLine_eq, htypes]
    have hkept : (s.takeLine previous new t i).cab.triggers = types := by
      refine (congrArg (fun u : State => u.cab.triggers) htake).trans (Eq.trans ?_ htypes)
      obtain ⟨_, _, hcab⟩ := writeStamp_cab (.cabLine i) (edgeTo (bitOf new i)) t s
      by_cases hstamp : stamps i = true
      · rw [if_pos hstamp]
        exact (congrArg CabUnit.triggers hcab :)
      · rw [if_neg hstamp]
        rfl
    have hstamps : (s.takeLine previous new t i).writeLines new t (lines.filter stamps) =
        (s.writeLines new t ((i :: lines).filter stamps)).withGens (s.takeLine previous new t i).gens := by
      rw [htake, writeLines_withGens]
      by_cases hstamp : stamps i = true
      · rw [if_pos hstamp, List.filter_cons_of_pos hstamp]
        rfl
      · rw [if_neg hstamp, List.filter_cons_of_neg hstamp]
        rfl
    have hgens : mapTable (Generator.offered t (lines.filter triggers)) (s.takeLine previous new t i).gens =
        mapTable (Generator.offered t ((i :: lines).filter triggers)) s.gens := by
      rw [htake]
      by_cases hoffer : triggers i = true
      · rw [if_pos hoffer, List.filter_cons_of_pos hoffer]
        exact mapTable_mapTable _ _ _
      · rw [if_neg hoffer, List.filter_cons_of_neg hoffer]
        rfl
    rw [List.foldl_cons, ih _ hkept, hstamps, hgens]
    rfl

/-- An INPUT report outside PAUSED: its stamps and triggers, and its word as the previous one. -/
theorem takeInput_of_still {new : Word} {t : Instant} {v : State} (h : s.ctrl.st ≠ .paused)
    (hlines : (List.finRange 16).foldl (takeLine s.cab.previous new t) s = v) :
    s.takeInput new t = (v.withCab { v.cab with previous := new }).kick := by
  have hst : v.ctrl.st ≠ .paused := by
    rw [← hlines]
    simpa using h
  have hnone : v.evaluateConditions s.cab.previous new = v := if_neg hst
  simp only [takeInput, hlines, hnone]

theorem writeLines_frame (new : Word) (t : Instant) (lines : List (Fin 16)) (s : State) :
    (s.writeLines new t lines).ctrl = s.ctrl ∧ (s.writeLines new t lines).clock = s.clock ∧
      (s.writeLines new t lines).ports = s.ports ∧ (s.writeLines new t lines).queue = s.queue ∧
      (s.writeLines new t lines).routes = s.routes ∧ (s.writeLines new t lines).channels = s.channels ∧
      (s.writeLines new t lines).discards = s.discards := by
  induction lines generalizing s with
  | nil => simp
  | cons i lines ih => simpa using ih (s.writeStamp (.cabLine i) (edgeTo (bitOf new i)) t)

theorem takeReport_of_input {arrival : Instant} {lines sum : Word} :
    s.takeReport .cab arrival [3, lines, sum] =
      s.takeInput lines (arrival - micro (s.port .cab).echo.lineDelay) := rfl

end State
end Sys2Proof.Machine

section
open Sys2Proof Sys2Proof.Machine

/-- Settles O42, by the stamps of the lines that qualify and the generators that each offer reaches. -/
theorem inputStampsEdgesAndTriggers : Obligations.InputStampsEdgesAndTriggers := by
  unfold Obligations.InputStampsEdgesAndTriggers
  intro dt span lines s hreset u b hst hinbound hopen hstill instant old new stamps offers stamped
  have hexec : exec (.input dt .cab span lines) s = .next (u.takeSummed .cab span [3, lines]) :=
    congrArg Host.Outcome.next (outside_of_running dt _ hreset)
  have htake : u.takeSummed .cab span [3, lines] = u.takeInput lines instant :=
    (State.takeSummed_of_open (kind := 3) (fields := [lines]) hst hopen hinbound rfl).trans
      State.takeReport_of_input
  have hstamps : stamped = (List.finRange 16).filter fun i =>
      (u.cab.triggers[i]).stamps (bitOf u.cab.previous i) (bitOf lines i) := rfl
  have hoffers : offers = fun i => (u.cab.triggers[i]).triggers (bitOf u.cab.previous i) (bitOf lines i) := by
    funext i
    simp only [offers, stamps]
    cases u.cab.triggers[i] <;> rfl
  let v := u.writeLines lines instant stamped
  let gens := mapTable (Generator.offered instant ((List.finRange 16).filter offers)) u.gens
  have hlines : (List.finRange 16).foldl (State.takeLine u.cab.previous lines instant) u = v.withGens gens := by
    simp only [v, gens, hstamps, hoffers]
    exact State.takeLines_eq u.cab.triggers (List.finRange 16) u rfl
  obtain ⟨hctrl, hclock, hports, hqueue, hroutes, hchannels, hdiscards⟩ :=
    State.writeLines_frame lines instant stamped u
  obtain ⟨fifo, gap, hcab⟩ := State.writeLines_cab lines instant stamped u
  refine ⟨_, hexec.trans (congrArg Host.Outcome.next (htake.trans (State.takeInput_of_still hstill hlines))),
    by simp, ?_, ?_, by simpa using hctrl, by simpa using hclock, by simpa using hports, by simpa using hqueue,
    by simpa using hroutes, by simpa using hchannels, by simpa using hdiscards, fun hroom => ?_,
    fun hbusy => ?_, fun g => ?_⟩
  · simp [v, hcab]
  · simp [v, hcab]
  · refine (congrArg _ ?_).trans (State.writeLines_fifo_of_room lines instant stamped u hroom)
    simp [v]
  · have hvbusy : v.link.tx ≠ .idle := (State.notes_writeLines lines instant stamped u).busy hbusy
    refine ((State.notes_kick (s := _) []).stamps (by exact hvbusy)).trans ?_
    change v.link.slots.stamps = _
    cases hfifo : u.cab.fifo with
    | cons x xs =>
      have hlink : v.link = u.link := State.writeLines_link_of_nonempty lines instant stamped (by simp [hfifo])
      rw [hlink]
    | nil =>
      cases hlist : stamped with
      | nil => simp [v, hlist]
      | cons n rest =>
        have hlink := State.writeLines_link_of_empty lines instant n rest hfifo
        have hslot := State.writeStamp_stampsSlot_of_empty (.cabLine n) (edgeTo (bitOf lines n)) instant hfifo hbusy
        simp only [v, hlist, hlink, hslot]
        rfl
  · intro triggered
    have hgen : gens[g] = (u.gens[g]).offered instant ((List.finRange 16).filter offers) := mapTable_getElem _ _ _ g.isLt
    simp only [State.kick_frame, State.withCab_gens, State.withGens_gens]
    rw [hgen]
    by_cases hidle : (u.gens[g]).mode = .oneShot ∧ (u.gens[g]).runState = .idle
    · rw [Generator.offered_of_idle _ _ hidle.1 hidle.2, List.any_filter]
      simp only [triggered, hidle.1, hidle.2, decide_true, Bool.true_and, Bool.and_comm]
    · rw [Generator.offered_of_started _ _ hidle, if_neg]
      simp only [triggered, Bool.and_eq_true, decide_eq_true_eq]
      exact fun h => hidle h.1

end

/-! ### INPUT in PAUSED: the resume conditions (R37, R170) -/

namespace Sys2Proof.Machine

namespace ResumeCondition

/-- A condition with its flag clear fires as its type asks of the line's old and new level (R170). -/
def Asks (old new : Bool) : TriggerType → Prop
  | .none => False
  | .rising => old = false ∧ new = true
  | .falling => old = true ∧ new = false
  | .either => old ≠ new
  | .high => new = true
  | .low => new = false

theorem fires_iff (previous new : Word) (c : ResumeCondition) :
    c.fires previous new = true ↔ c.held = false ∧ Asks (bitOf previous c.line) (bitOf new c.line) c.type := by
  unfold fires edgeOf
  cases c.type <;> cases bitOf previous c.line <;> cases bitOf new c.line <;> simp [Asks]

theorem follow_eq (new : Word) (c : ResumeCondition) :
    c.follow new =
      { c with
        held :=
          match c.type with
          | .high => c.held && bitOf new c.line
          | .low => c.held && !bitOf new c.line
          | _ => c.held } := by
  unfold follow
  split <;> simp_all

end ResumeCondition

/-- The first of the indices that a test picks heads their list. -/
theorem filter_finRange_of_first {n : Nat} {test : Fin n → Bool} {i : Fin n} (hi : test i = true)
    (hfirst : ∀ j, j < i → test j ≠ true) :
    ∃ rest, (List.finRange n).filter test = i :: rest ∧ ∀ j ∈ rest, j ≠ i ∧ test j = true := by
  have hsorted : ((List.finRange n).filter test).Pairwise (· < ·) := (List.pairwise_lt_finRange n).filter test
  have hmem : i ∈ (List.finRange n).filter test := by simp [hi]
  have htest {j : Fin n} (hj : j ∈ (List.finRange n).filter test) : test j = true := (List.mem_filter.mp hj).2
  cases hlist : (List.finRange n).filter test with
  | nil => simp [hlist] at hmem
  | cons a rest =>
    rw [hlist] at hsorted hmem
    obtain ⟨hlt, -⟩ := List.pairwise_cons.mp hsorted
    have hai : a = i := by
      obtain heq | hin := List.mem_cons.mp hmem
      · exact heq.symm
      · exact absurd (htest (by simp [hlist])) (hfirst a (hlt i hin))
    subst hai
    exact ⟨rest, rfl, fun j hj => ⟨(hlt j hj).ne', htest (by simp [hlist, hj])⟩⟩

namespace State

variable {s : State}

/-! #### What the conditions that fire do (R37) -/

theorem takeResumes_of_moved (is : List (Fin 4)) (h : s.ctrl.st ≠ .paused) : is.foldl takeResume s = s := by
  induction is with
  | nil => rfl
  | cons i is ih =>
    have hnone : s.takeResume i = s := if_pos h
    rwa [List.foldl_cons, hnone]

/-- A hub ready to resume takes the first condition that fires. -/
theorem takeResumes_of_ready (i : Fin 4) (rest : List (Fin 4)) (hst : s.ctrl.st = .paused)
    (hready : s.readyToResume = true) :
    (i :: rest).foldl takeResume s = s.enterMotion (.resumeCondition i) := by
  have hfirst : s.takeResume i = s.enterMotion (.resumeCondition i) := by simp [takeResume, hst, hready]
  obtain ⟨l, hmotion⟩ := s.enterMotion_eq (.resumeCondition i)
  rw [List.foldl_cons, hfirst, takeResumes_of_moved]
  rw [hmotion]
  change (if s.ctrl.rampIn = 0 then HubState.live else .rampIn) ≠ .paused
  split_ifs <;> simp

/-- The notice of a condition refused. -/
def refusal (s : State) (i : Fin 4) : StateNotice :=
  ⟨.paused, .paused, .resumeRefused i s.clock.st s.notRunning, s.ctrl.reason, s.ctrl.f, s.clock.current⟩

theorem takeResume_of_unready (i : Fin 4) (hst : s.ctrl.st = .paused) (h : s.readyToResume = false) :
    s.takeResume i = s.placeState (s.refusal i) := by
  simp [takeResume, hst, h, refusal]

theorem takeResumes_ctrl_of_unready (is : List (Fin 4)) (hst : s.ctrl.st = .paused)
    (h : s.readyToResume = false) : (is.foldl takeResume s).ctrl = s.ctrl := by
  induction is generalizing s with
  | nil => rfl
  | cons i is ih =>
    rw [List.foldl_cons, takeResume_of_unready i hst h]
    exact (ih (s := s.placeState (s.refusal i)) hst h).trans rfl

/-! #### The report -/

/-- The lines of a report leave the conditions alone, and every notice but that of the stamps. -/
theorem takeLines_kept (previous new : Word) (t : Instant) (lines : List (Fin 16)) (s : State) :
    Notes [.stamps] s (lines.foldl (takeLine previous new t) s) ∧
      (lines.foldl (takeLine previous new t) s).cab.conditions = s.cab.conditions := by
  rw [takeLines_eq s.cab.triggers lines s rfl]
  refine ⟨(notes_writeLines _ _ _ _).trans (.of_link_eq rfl), ?_⟩
  obtain ⟨_, _, hcab⟩ := s.writeLines_cab new t
    (lines.filter fun i => (s.cab.triggers[i]).stamps (bitOf previous i) (bitOf new i))
  exact (congrArg CabUnit.conditions hcab :)

/-- The flags after the report (R170). -/
def followed (new : Word) (s : State) : State :=
  s.withCab { s.cab with conditions := mapTable (ResumeCondition.follow new) s.cab.conditions }

/-- The conditions that fire on the report, in order. -/
def fired (previous new : Word) (s : State) : List (Fin 4) :=
  (List.finRange 4).filter fun i => (s.cab.conditions[i]).fires previous new

/-- The state once the conditions that fire are taken. -/
def resumed (previous new : Word) (s : State) : State :=
  (s.fired previous new).foldl takeResume (s.followed new)

/-- An INPUT report in PAUSED: the lines, the flags, and the conditions that fire. -/
theorem takeInput_of_paused {new : Word} {t : Instant} {v : State} (h : s.ctrl.st = .paused)
    (hlines : (List.finRange 16).foldl (takeLine s.cab.previous new t) s = v) :
    s.takeInput new t =
      ((v.resumed s.cab.previous new).withCab { (v.resumed s.cab.previous new).cab with previous := new }).kick := by
  have hst : v.ctrl.st = .paused := by
    rw [← hlines]
    simpa using h
  have hresumed : v.evaluateConditions s.cab.previous new = v.resumed s.cab.previous new := if_pos hst
  simp only [takeInput, hlines, hresumed]

theorem resumed_conditions (previous new : Word) (i : Fin 4) :
    (s.resumed previous new).cab.conditions[i] = (s.cab.conditions[i]).follow new := by
  have hcab : (s.resumed previous new).cab = (s.followed new).cab := by simp [resumed]
  rw [hcab]
  exact mapTable_getElem _ _ _ i.isLt

theorem fired_of_none {previous new : Word} (h : ∀ i : Fin 4, (s.cab.conditions[i]).fires previous new ≠ true) :
    s.fired previous new = [] := List.filter_eq_nil_iff.mpr fun i _ => h i

end State
end Sys2Proof.Machine

section
open Sys2Proof Sys2Proof.Machine

/-- Settles O43, by the first condition that fires and the hub's readiness. -/
theorem resumeConditionsResume : Obligations.ResumeConditionsResume := by
  unfold Obligations.ResumeConditionsResume
  intro dt span lines s hreset u hst hinbound hopen hpaused fires ready
  have hexec : exec (.input dt .cab span lines) s = .next (u.takeSummed .cab span [3, lines]) :=
    congrArg Host.Outcome.next (outside_of_running dt _ hreset)
  let instant := u.now - micro span - micro (u.port .cab).echo.lineDelay
  have htake : u.takeSummed .cab span [3, lines] = u.takeInput lines instant :=
    (State.takeSummed_of_open (kind := 3) (fields := [lines]) hst hopen hinbound rfl).trans
      State.takeReport_of_input
  generalize hlines : (List.finRange 16).foldl (State.takeLine u.cab.previous lines instant) u = v
  obtain ⟨hnotes, hconditions⟩ :=
    hlines ▸ State.takeLines_kept u.cab.previous lines instant (List.finRange 16) u
  have hctrl : v.ctrl = u.ctrl := by simp [← hlines]
  have hclock : v.clock = u.clock := by simp [← hlines]
  have hports : v.ports = u.ports := by simp [← hlines]
  have hinput := State.takeInput_of_paused hpaused hlines
  have hfires (i : Fin 4) : (v.cab.conditions[i]).fires u.cab.previous lines = true ↔ fires i := by
    rw [hconditions]
    exact ResumeCondition.fires_iff _ _ _
  let w := v.followed lines
  have hwst : w.ctrl.st = .paused := (congrArg Controller.st hctrl).trans hpaused
  have hready : w.readyToResume = true ↔ ready := by
    rw [State.readyToResume_iff, show w.clock = u.clock from hclock]
    simp only [State.port, show w.ports = u.ports from hports, ready]
  have hmoved {i : Fin 4} (hi : fires i) (hfirst : ∀ j, j < i → ¬fires j) (hyes : ready) :
      v.resumed u.cab.previous lines = w.enterMotion (.resumeCondition i) := by
    obtain ⟨rest, hlist, -⟩ := filter_finRange_of_first ((hfires i).mpr hi) fun j hj h => hfirst j hj ((hfires j).mp h)
    have hfired : v.fired u.cab.previous lines = i :: rest := hlist
    unfold State.resumed
    rw [hfired]
    exact State.takeResumes_of_ready i rest hwst (hready.mpr hyes)
  have hquiet (hnone : ∀ i, ¬fires i) : v.resumed u.cab.previous lines = w := by
    unfold State.resumed
    rw [State.fired_of_none fun i h => hnone i ((hfires i).mp h)]
    rfl
  have hwbusy (hbusy : u.link.tx ≠ .idle) : w.link.tx ≠ .idle := hnotes.busy hbusy
  have hwslot (hbusy : u.link.tx ≠ .idle) : w.link.slots.state = u.link.slots.state := hnotes.state hbusy
  refine ⟨_, hexec.trans (congrArg Host.Outcome.next (htake.trans hinput)), by simp, fun i => ?_,
    fun hany hyes => ?_, fun hnot => ?_, fun hbusy => ⟨fun i hi hfirst hyes => ?_, fun i hi halone hno => ?_,
      fun hnone => ?_⟩⟩
  · have hflag := v.resumed_conditions u.cab.previous lines i
    rw [hconditions, ResumeCondition.follow_eq] at hflag
    simp only [State.kick_frame, State.withCab_cab]
    exact hflag
  · obtain ⟨i, hi, hfirst⟩ := wellFounded_lt.has_min {i | fires i} hany
    simp only [State.kick_frame, State.withCab_ctrl]
    obtain ⟨l, hmotion⟩ := w.enterMotion_eq (.resumeCondition i)
    rw [hmoved hi (fun j hj h => hfirst j h hj) hyes, hmotion, ← hctrl]
    rfl
  · simp only [State.kick_frame, State.withCab_ctrl]
    by_cases hyes : ready
    · rw [hquiet fun i hi => hnot ⟨⟨i, hi⟩, hyes⟩]
      exact hctrl
    · exact (State.takeResumes_ctrl_of_unready _ hwst (Bool.eq_false_iff.mpr (mt hready.mp hyes))).trans hctrl
  · have hlink := w.enterMotion_stateSlot (.resumeCondition i) (hwbusy hbusy)
    have hcur : w.clock.current = u.clock.current := congrArg Clock.current hclock
    rw [hmoved hi hfirst hyes]
    have hbusy' : (w.enterMotion (.resumeCondition i)).link.tx ≠ .idle := by
      rw [hlink]
      exact hwbusy hbusy
    refine ((State.notes_kick (s := _) []).state (by exact hbusy')).trans ?_
    obtain ⟨l, hmotion⟩ := w.enterMotion_eq (.resumeCondition i)
    simp only [State.withCab_link, State.kick_frame, State.withCab_ctrl]
    rw [hlink, hmotion, hcur, hwslot hbusy, hwst, show w.ctrl = u.ctrl from hctrl]
    rfl
  · obtain ⟨rest, hlist, hrest⟩ := filter_finRange_of_first ((hfires i).mpr hi)
      fun j hj h => halone j hj.ne ((hfires j).mp h)
    have hnil : rest = [] := List.eq_nil_iff_forall_not_mem.mpr fun j hj =>
      halone j (hrest j hj).1 ((hfires j).mp (hrest j hj).2)
    have hfired : v.fired u.cab.previous lines = [i] := hlist.trans (by rw [hnil])
    have hresumed : v.resumed u.cab.previous lines = w.placeState (w.refusal i) := by
      unfold State.resumed
      rw [hfired]
      exact State.takeResume_of_unready i hwst (Bool.eq_false_iff.mpr (mt hready.mp hno))
    have hlink := State.placeState_of_busy (w.refusal i) (hwbusy hbusy)
    rw [hresumed]
    refine ((State.notes_kick (s := _) []).state ?_).trans ?_
    · simp only [State.withCab_link, hlink]
      exact hwbusy hbusy
    · simp only [State.withCab_link, hlink, hwslot hbusy]
      unfold State.refusal State.notRunning
      rw [show w.clock = u.clock from hclock, show w.ctrl = u.ctrl from hctrl]
      simp only [State.port, show w.ports = u.ports from hports]
      rfl
  · rw [hquiet hnone]
    exact ((State.notes_kick (s := _) []).state (by exact hwbusy hbusy)).trans (hwslot hbusy)

end

/-! ### A frame start beside its deliveries (R2, R16, R30, R35, R110 to R114)

The schedulers and the event queue take the frame start before or after the other blocks. What those leave of
the packets that wait is said here once for both orders. -/

namespace Sys2Proof.Machine

/-- The port as the schedulers and the arbiter see it, but for its ECHO packet. -/
structure BoardPort.Alike (b c : BoardPort) : Prop where
  sched : c.sched = b.sched
  skipCount : c.skipCount = b.skipCount
  inFlight : c.inFlight = b.inFlight
  wait : c.wait = b.wait
  abort : c.abort = b.abort
  cfg : c.cfg = b.cfg
  latCue : c.latCue = b.latCue
  latEvent : c.latEvent = b.latEvent

namespace BoardPort

variable {b c : BoardPort}

theorem Alike.refl (b : BoardPort) : b.Alike b := ⟨rfl, rfl, rfl, rfl, rfl, rfl, rfl, rfl⟩

theorem Alike.heldOff (h : b.Alike c) : c.heldOff ↔ b.heldOff := by
  unfold BoardPort.heldOff
  rw [h.inFlight, h.wait, h.abort]

theorem Alike.trans {d : BoardPort} (h : b.Alike c) (h' : c.Alike d) : b.Alike d :=
  ⟨h'.sched.trans h.sched, h'.skipCount.trans h.skipCount, h'.inFlight.trans h.inFlight, h'.wait.trans h.wait,
    h'.abort.trans h.abort, h'.cfg.trans h.cfg, h'.latCue.trans h.latCue, h'.latEvent.trans h.latEvent⟩

theorem alike_of_echo (b : BoardPort) (openedAt : Option Instant) (echo : EchoRecord) (due : Option DueEcho) :
    b.Alike { b with openedAt := openedAt, echo := echo, echoDue := due } :=
  ⟨rfl, rfl, rfl, rfl, rfl, rfl, rfl, rfl⟩

theorem issueEcho_alike (b : BoardPort) : b.Alike b.issueEcho := by
  unfold issueEcho
  split
  · exact .refl b
  · exact alike_of_echo b _ _ _

theorem ageEcho_alike (b : BoardPort) : b.Alike b.ageEcho := by
  unfold ageEcho
  split
  · split
    · exact alike_of_echo b _ _ _
    · exact alike_of_echo b _ _ _
  · exact .refl b

theorem frameStartIssue_alike (b : BoardPort) : b.Alike b.frameStartIssue := by
  unfold frameStartIssue
  split
  · exact .refl b
  · exact issueEcho_alike b
  · exact issueEcho_alike b
  · split
    · exact issueEcho_alike b
    · split
      · exact (alike_of_echo b _ _ _).trans (issueEcho_alike _)
      · exact alike_of_echo b _ _ _

/-- The echoes leave the packets of the schedulers and the queue alone. -/
theorem echoStep_alike (now : Instant) (b : BoardPort) : b.Alike (b.echoStep now) :=
  ((alike_of_echo b _ _ _).trans (ageEcho_alike _)).trans (frameStartIssue_alike _)

end BoardPort

/-- The destination as it was, or DROPPED. -/
def Destination.Drops (d d' : Destination) : Prop := d' = d ∨ d'.port = d.port ∧ d'.state = .dropped

namespace Destination

variable {d d' d'' : Destination}

theorem Drops.refl (d : Destination) : d.Drops d := .inl rfl

theorem Drops.port (h : d.Drops d') : d'.port = d.port := by
  obtain rfl | ⟨hport, -⟩ := h
  · rfl
  · exact hport

theorem Drops.trans (h : d.Drops d') (h' : d'.Drops d'') : d.Drops d'' := by
  obtain rfl | ⟨hport', hst'⟩ := h'
  · exact h
  obtain rfl | ⟨hport, -⟩ := h
  · exact .inr ⟨hport', hst'⟩
  · exact .inr ⟨hport'.trans hport, hst'⟩

theorem drops_drop (d : Destination) : d.Drops d.drop := by
  unfold drop
  split
  · exact .inr ⟨rfl, rfl⟩
  · exact .inl rfl

theorem drops_dropOnLoss (p : Port) (d : Destination) : d.Drops (d.dropOnLoss p) := by
  unfold dropOnLoss
  split
  · split
    · exact .inr ⟨rfl, rfl⟩
    · exact .inl rfl
  · split
    · exact .inr ⟨rfl, rfl⟩
    · exact .inl rfl
  · exact .inl rfl

end Destination

theorem Entry.close_dests (e : Entry) : e.close.dests = e.dests := by simp

/-- The entry with destinations DROPPED at most; it becomes DONE only when none of them is PENDING. -/
structure Entry.Drops (e e' : Entry) : Prop extends Entry.Follows (fun _ => Destination.Drops) e e' where
  closed : e.st = .active → e'.st ≠ .active → ∀ d ∈ e'.dests, d.pending = false

namespace Entry.Drops

variable {e e' e'' : Entry}

theorem refl (e : Entry) : e.Drops e := ⟨.refl Destination.Drops.refl, fun ha hd => absurd ha hd⟩

theorem trans (h : e.Drops e') (h' : e'.Drops e'') : e.Drops e'' where
  toFollows :=
    (h.toFollows.trans_frame (fun _ => Destination.Drops) (fun _ _ d _ => .refl d) h'.toFollows).mono
      fun _ _ ⟨_, hd, hd'⟩ => hd.trans hd'
  closed ha hd := by
    by_cases ha' : e'.st = .active
    · exact h'.closed ha' hd
    · rw [h'.done ha']
      exact h.closed ha ha'

/-- The entry with its destinations dropped by `f`, and DONE if that finishes it. -/
theorem mapActive_close {f : Entry → Destination → Destination} (h : ∀ e d, Destination.Drops d (f e d))
    (e : Entry) : e.Drops (e.mapActive f).close := by
  by_cases ha : e.st = .active
  · rw [Entry.mapActive_of_active ha]
    refine ⟨⟨by simp, by simp, fun _ => ?_, fun hno => absurd ha hno⟩, fun _ hdone d hmem => ?_⟩
    · rw [close_dests]
      exact List.forall₂_map_right_iff.mpr (List.forall₂_same.mpr fun d _ => h e d)
    · by_cases hfinished : ({ e with dests := e.dests.map (f e) } : Entry).finished = true
      · rw [close_dests] at hmem
        simp only [Entry.finished, Bool.and_eq_true, List.all_eq_true, Bool.not_eq_true'] at hfinished
        exact hfinished.2 d hmem
      · have hopen : ({ e with dests := e.dests.map (f e) } : Entry).close = { e with dests := e.dests.map (f e) } :=
          if_neg hfinished
        rw [hopen] at hdone
        exact absurd ha hdone
  · have hdone : (e.mapActive f).close = e := by
      have hst : e.st = .done := by
        cases hst : e.st
        · exact absurd hst ha
        · rfl
      rw [Entry.mapActive_of_done hst, Entry.close_of_done hst]
    rw [hdone]
    exact .refl e

end Entry.Drops

namespace State

variable (s : State)

/-- Destinations are DROPPED at most. -/
def Dropping (s t : State) : Prop := List.Forall₂ Entry.Drops s.queue t.queue

variable {s} {t u : State}

theorem Dropping.of_queue_eq (h : t.queue = s.queue) : Dropping s t := by
  unfold Dropping
  rw [h]
  exact List.forall₂_same.mpr fun e _ => .refl e

theorem Dropping.trans (h : Dropping s t) (h' : Dropping t u) : Dropping s u :=
  List.Forall₂.imp (fun _ _ ⟨_, he, he'⟩ => he.trans he') (forall₂_comp h h')

theorem dropping_mapDests_settle {f : Entry → Destination → Destination}
    (h : ∀ e d, Destination.Drops d (f e d)) (s : State) : Dropping s (s.mapDests f).settle := by
  unfold Dropping
  rw [settle_queue, mapDests_queue, List.map_map, List.forall₂_map_right_iff]
  exact List.forall₂_same.mpr fun e _ => Entry.Drops.mapActive_close h e

variable (s)

theorem dropping_flushEvents : Dropping s s.flushEvents :=
  dropping_mapDests_settle (fun _ => Destination.drops_drop) s

theorem dropping_enterPaused (cause : StateCause) : Dropping s (s.enterPaused cause) := by
  refine Dropping.trans ?_ (.of_queue_eq (State.withCab_queue _ _))
  refine Dropping.trans ?_ (dropping_flushEvents _)
  exact .of_queue_eq (by simp)

theorem dropping_enterHalted (reason : HaltReason) (cause : StateCause) :
    Dropping s (s.enterHalted reason cause) :=
  (Dropping.of_queue_eq (by simp)).trans (dropping_flushEvents _)

theorem dropping_rampStep : Dropping s s.rampStep := by
  by_cases hin : s.ctrl.st = .rampIn
  · rw [rampStep_of_rampIn hin]
    split <;> exact .of_queue_eq (by simp)
  by_cases hout : s.ctrl.st = .rampOut
  · rw [rampStep_of_rampOut hout]
    split
    · exact s.dropping_enterPaused _
    · exact .of_queue_eq (by simp)
  · rw [rampStep_of_steady hin hout]
    exact .of_queue_eq rfl

theorem dropping_clockLost : Dropping s s.clockLost := by
  by_cases h : inMotion s.ctrl.st
  · rw [clockLost_of_inMotion h]
    exact s.dropping_enterHalted _ _
  · rw [clockLost_of_still h]
    exact .of_queue_eq rfl

theorem dropping_controllerFrameStart (expired : Bool) : Dropping s (s.controllerFrameStart expired) := by
  unfold controllerFrameStart
  split
  · split
    · exact s.dropping_clockLost.trans (dropping_rampStep _)
    · exact s.dropping_rampStep.trans (dropping_clockLost _)
  · exact s.dropping_rampStep

theorem dropping_sourcesFrameStart (renumbering expired : Bool) :
    Dropping s (s.sourcesFrameStart renumbering expired) := by
  have hrecord : Dropping s (s.recordAndStep expired) := by
    unfold recordAndStep
    split
    · exact (Dropping.of_queue_eq (by simp)).trans (dropping_controllerFrameStart _ expired)
    · exact (s.dropping_controllerFrameStart expired).trans (.of_queue_eq (by simp))
  exact hrecord.trans (.of_queue_eq (by simp [sourcesFrameStart]))

theorem dropping_losePort (p : Port) : Dropping s (s.losePort p) := by
  rw [losePort_eq]
  have hdrop (u : State) : Dropping u (u.mapDests fun _ => Destination.dropOnLoss p).settle :=
    dropping_mapDests_settle (fun _ => Destination.drops_dropOnLoss p) u
  have hport : Dropping s (s.withPort p (s.port p).lost) := .of_queue_eq rfl
  exact (hport.trans (hdrop _)).trans (.of_queue_eq (by simp))

theorem dropping_echoFrameStart (p : Port) : Dropping s (s.echoFrameStart p) := by
  have hhub (u : State) : Dropping u (u.portLost p) := by
    obtain h | h := portLost_eq p u
    · rw [h]
      exact u.dropping_enterHalted _ _
    · exact .of_queue_eq (by rw [h])
  unfold echoFrameStart
  dsimp only
  split
  · exact ((Dropping.of_queue_eq (by simp)).trans (dropping_losePort _ p)).trans (hhub _)
  · exact .of_queue_eq (by simp)

theorem dropping_echoesFrameStart : Dropping s s.echoesFrameStart := by
  unfold echoesFrameStart
  generalize s.portOrder = ps
  induction ps generalizing s with
  | nil => exact .of_queue_eq rfl
  | cons p ps ih => exact (s.dropping_echoFrameStart p).trans (ih _)

/-! #### The two orders -/

/-- The blocks of a frame start but the schedulers and the event queue. -/
def otherBlocks (renumbering expired : Bool) (s : State) : State :=
  (s.sourcesFrameStart renumbering expired).echoesFrameStart

/-- What the other blocks leave for the deliveries; where `plain` holds they touch no packet. -/
structure Beside (plain : Prop) (s t : State) : Prop where
  clock : t.clock = s.clock
  drops : Dropping s t
  queue : plain → t.queue = s.queue
  ports : plain → ∀ p, (s.port p).Alike (t.port p)

theorem Beside.refl (plain : Prop) (s : State) : Beside plain s s :=
  ⟨rfl, .of_queue_eq rfl, fun _ => rfl, fun _ _ => .refl _⟩

variable {s}

/-- Where the hub neither ramps out nor halts the controller touches no packet. -/
theorem sourcesFrameStart_plain (renumbering : Bool) (h : s.ctrl.st ≠ .rampOut) :
    (s.sourcesFrameStart renumbering false).queue = s.queue ∧
      (s.sourcesFrameStart renumbering false).ports = s.ports := by
  have hstep (u : State) (hu : u.ctrl.st ≠ .rampOut) : u.rampStep.queue = u.queue ∧ u.rampStep.ports = u.ports := by
    by_cases hin : u.ctrl.st = .rampIn
    · rw [rampStep_of_rampIn hin]
      split <;> simp
    · rw [rampStep_of_steady hin hu]
      exact ⟨rfl, rfl⟩
  have hrecord : (s.recordAndStep false).queue = s.queue ∧ (s.recordAndStep false).ports = s.ports := by
    unfold recordAndStep
    split
    · simpa [controllerFrameStart] using hstep s.handFrameStart (by simpa using h)
    · simpa [controllerFrameStart] using hstep s h
  simpa [sourcesFrameStart] using hrecord

theorem beside_otherBlocks {plain : Prop} {expired : Bool} (renumbering : Bool)
    (hplain : plain → (∀ p, (s.port p).goesLost = false) ∧ s.ctrl.st ≠ .rampOut ∧ expired = false) :
    Beside plain s (s.otherBlocks renumbering expired) where
  clock := by simp [otherBlocks]
  drops := (s.dropping_sourcesFrameStart renumbering expired).trans (dropping_echoesFrameStart _)
  queue h := by
    obtain ⟨hlost, hst, rfl⟩ := hplain h
    obtain ⟨hqueue, hports⟩ := sourcesFrameStart_plain renumbering hst
    unfold otherBlocks
    rw [echoesFrameStart_eq fun p => by rw [port_of_ports_eq hports]; exact hlost p]
    exact hqueue
  ports h p := by
    obtain ⟨hlost, hst, rfl⟩ := hplain h
    obtain ⟨hqueue, hports⟩ := sourcesFrameStart_plain renumbering hst
    unfold otherBlocks
    rw [echoesFrameStart_eq fun p => by rw [port_of_ports_eq hports]; exact hlost p]
    rw [← port_of_ports_eq hports p]
    cases p <;> exact BoardPort.echoStep_alike _ _

end State
end Sys2Proof.Machine

/-! ### The deliveries of a frame start (R126, R132, R133, R145, R158) -/

namespace Sys2Proof.Machine

/-! #### The presentation instants of the frames ahead -/

/-- P(F) for the current frame and the frames ahead of it (R4). -/
theorem Clock.presentation_of_ahead {c : Clock} {f : Frame} (h : (f - c.current).toNat ≤ 32767) :
    c.presentation f =
      some (predictedStart c.start c.current f c.set.frameLen + BitVec.ofNat 32 c.set.presentPhase) := by
  have hstart : c.startOf f = some (predictedStart c.start c.current f c.set.frameLen) := by
    unfold startOf predictedStart frameDist
    dsimp only
    by_cases hzero : (f - c.current).toNat = 0
    · simp [hzero]
    · rw [if_neg hzero, if_pos h]
      rfl
  simp only [presentation, hstart]
  rfl

theorem past_of_not_reached {t now : Instant} (h : reached t now = false) : past t now = false := by
  simp only [reached, past, decide_eq_false_iff_not] at h ⊢
  omega

/-! #### The first frame whose release is ahead (R126) -/

namespace BoardPort

variable {c : Clock} {b : BoardPort}

/-- The release of the CUE packet of a frame, as the clock has it. -/
def releaseOf (c : Clock) (b : BoardPort) (f : Frame) : Instant := b.cueRelease (c.presentationOr f c.cueTime)

/-- The search ends at the first frame whose release is ahead. -/
theorem firstAhead_spec {fuel k : Nat} {f : Frame} (hk : k < fuel)
    (hahead : reached (b.releaseOf c (f + BitVec.ofNat 16 k)) c.cueTime = false) :
    ∃ n ≤ k, b.firstAhead c fuel f = f + BitVec.ofNat 16 n ∧
      reached (b.releaseOf c (f + BitVec.ofNat 16 n)) c.cueTime = false ∧
      ∀ j < n, reached (b.releaseOf c (f + BitVec.ofNat 16 j)) c.cueTime = true := by
  induction fuel generalizing f k with
  | zero => omega
  | succ fuel ih =>
    by_cases hfirst : reached (b.releaseOf c f) c.cueTime = true
    · have hnext : b.firstAhead c (fuel + 1) f = b.firstAhead c fuel (f + 1) := if_pos hfirst
      have hshift (j : Nat) : f + 1 + BitVec.ofNat 16 j = f + BitVec.ofNat 16 (j + 1) := by
        rw [BitVec.ofNat_add, add_assoc, add_comm (1 : Frame)]
        rfl
      cases k with
      | zero =>
        rw [BitVec.add_zero, hfirst] at hahead
        cases hahead
      | succ k =>
        obtain ⟨n, hn, hfound, hreached, hbefore⟩ := ih (f := f + 1) (k := k) (by omega) (by rwa [hshift])
        refine ⟨n + 1, by omega, hnext.trans (hfound.trans (hshift n)), by rwa [← hshift], fun j hj => ?_⟩
        cases j with
        | zero => rwa [BitVec.add_zero]
        | succ j => exact hshift j ▸ hbefore j (by omega)
    · have hstop : b.firstAhead c (fuel + 1) f = f := if_neg hfirst
      refine ⟨0, by omega, by rw [hstop, BitVec.add_zero], ?_, fun j hj => absurd hj (by omega)⟩
      rw [BitVec.add_zero]
      exact Bool.not_eq_true _ ▸ hfirst

end BoardPort

namespace State

variable {s : State} {p : Port}

/-! #### A scheduler that nothing is due for -/

theorem startClaim_sched {c : Claim} (hc : c ≠ .cue) (s : State) :
    ((s.startClaim p c).port p).sched = (s.port p).sched ∧
      ((s.startClaim p c).port p).skipCount = (s.port p).skipCount := by
  cases c
  case cue => exact absurd rfl hc
  case continuation k => simp [startClaim, startContinuation]
  case event tag =>
    unfold startClaim startEvent
    dsimp only
    split
    · rw [launch_port_same]
      exact ⟨rfl, rfl⟩
    · exact ⟨rfl, rfl⟩
  case neutral =>
    unfold startClaim startNeutral
    dsimp only
    split <;> simp
  case echo =>
    unfold startClaim startEcho
    dsimp only
    split <;> simp

theorem eq_event_of_mem_eventClaim {e : Entry} {x : Instant × Claim} (h : x ∈ eventClaim p e) :
    x.2 = .event e.tag := by
  unfold eventClaim at h
  split at h
  · obtain ⟨d, -, hd⟩ := List.mem_filterMap.mp h
    split at hd
    · split at hd <;> cases hd
      rfl
    · cases hd
  · cases h

/-- A CUE packet that the arbiter chooses is due. -/
theorem cueClaim_of_choice (h : s.chooseClaim p = some .cue) : (s.port p).cueClaim ≠ [] := fun hnone => by
  unfold chooseClaim at h
  split at h
  · next c hc =>
    cases h
    obtain ⟨t, ht⟩ := earliest_mem hc
    rw [claims_eq, hnone] at ht
    simp only [List.append_nil, List.mem_append, List.mem_map, List.mem_flatMap] at ht
    obtain ⟨k, -, hk⟩ | ⟨e, -, he⟩ := ht
    · cases hk
    · exact absurd (eq_event_of_mem_eventClaim he) (by simp)
  · split at h
    · cases h
    · split at h <;> cases h

/-- The end of an event leaves a scheduler alone whose packet is not due and not late. -/
theorem finishLines_sched_of_notDue (h : s.notDue p) :
    (s.finishLines.port p).sched = (s.port p).sched ∧
      (s.finishLines.port p).skipCount = (s.port p).skipCount := by
  obtain ⟨v, hv, ht⟩ := s.finishLines_at p
  have hexpire : (v.port p).sched = (s.port p).sched ∧ (v.port p).skipCount = (s.port p).skipCount := by
    rw [hv.port]
    unfold expirePort
    rw [skipPast_of_not_past _ fun sc hsc => (h sc hsc).2, expireConts_port, if_pos rfl]
    exact ⟨rfl, rfl⟩
  have hnone : (v.port p).cueClaim = [] := cueClaim_of_notDue fun sc hsc => by
    rw [hv.now]
    exact h sc (hexpire.1 ▸ hsc)
  have hgrant : ((v.grant p).port p).sched = (v.port p).sched ∧ ((v.grant p).port p).skipCount = (v.port p).skipCount := by
    unfold grant
    split
    · split
      · next c hc => exact startClaim_sched (fun hcue => cueClaim_of_choice (hcue ▸ hc) hnone) v
      · exact ⟨rfl, rfl⟩
    · exact ⟨rfl, rfl⟩
  rw [ht.port]
  exact ⟨hgrant.1.trans hexpire.1, hgrant.2.trans hexpire.2⟩

/-! #### The frame start by its deliveries -/

/-- The frame start as the clock's part, the deliveries, and the other blocks before or after them. -/
theorem frameStart_steps (plain : Prop) (s : State)
    (hplain : plain → (∀ p, (s.port p).goesLost = false) ∧ s.ctrl.st ≠ .rampOut ∧ s.expires = false) :
    ∃ v w, Beside plain s.clockFrameStart v ∧ Beside plain (v.deliveryFrameStart s.clock.renumber) w ∧
      s.frameStart = (w.finishLines.nextChoice).kick := by
  have hothers (u : State) (hctrl : u.ctrl = s.ctrl) (hports : ∀ p, (s.port p).Steady (u.port p)) :
      Beside plain u (u.otherBlocks s.clock.renumber s.expires) :=
    beside_otherBlocks _ fun h => by
      obtain ⟨hlost, hst, hexpires⟩ := hplain h
      exact ⟨fun p => (BoardPort.goesLost_of_steady (hports p)).trans (hlost p), hctrl ▸ hst, hexpires⟩
  have hclock (p : Port) : (s.port p).Steady (s.clockFrameStart.port p) := steady_of_ports_eq (by simp) p
  unfold frameStart
  dsimp only
  split
  · exact ⟨_, _, .refl _ _, hothers _ (by simp) fun p => (hclock p).trans (deliveryFrameStart_steady _ _ p), rfl⟩
  · exact ⟨_, _, hothers _ (by simp) hclock, .refl _ _, rfl⟩

end State
end Sys2Proof.Machine

/-! ### What becomes of the schedulers and the destinations at a frame start (R132, R133, R145, R147, R158) -/

namespace Sys2Proof.Machine

namespace BoardPort

variable {b b' : BoardPort} {c : Clock}

/-! #### Ports that the deliveries see alike -/

theorem Alike.schedule (h : b.Alike b') (c : Clock) (next : Frame) (due : Bool) :
    b'.schedule c next due = b.schedule c next due := by
  unfold BoardPort.schedule cueRelease cueLatest
  rw [h.latCue, h.cfg]

theorem Alike.firstAhead (h : b.Alike b') (c : Clock) (n : Nat) (f : Frame) :
    b'.firstAhead c n f = b.firstAhead c n f := by
  induction n generalizing f with
  | zero => rfl
  | succ n ih =>
    unfold BoardPort.firstAhead cueRelease
    rw [h.latCue, h.cfg, ih]

end BoardPort

namespace State

variable {s : State} {p : Port}

theorem rescheduled_sched_congr {b b' : BoardPort} (h : b.Alike b') (renumbering : Bool) (c : Clock) :
    (rescheduled renumbering c b').sched = (rescheduled renumbering c b).sched := by
  unfold rescheduled BoardPort.takeFirst BoardPort.reform
  rw [h.sched]
  split
  · exact h.sched
  · split
    · simp only [h.schedule, h.firstAhead]
    · split
      · simp only [h.schedule]
      · exact h.sched

theorem rescheduled_kept (renumbering : Bool) (c : Clock) (b : BoardPort) :
    (rescheduled renumbering c b).skipCount = b.skipCount ∧ (rescheduled renumbering c b).inFlight = b.inFlight := by
  unfold rescheduled BoardPort.takeFirst BoardPort.reform
  split
  · exact ⟨rfl, rfl⟩
  · split
    · exact ⟨rfl, rfl⟩
    · split <;> exact ⟨rfl, rfl⟩

theorem heldOff_rescheduled (renumbering : Bool) (c : Clock) (b : BoardPort) :
    (rescheduled renumbering c b).heldOff ↔ b.heldOff := by
  have hsteady := rescheduled_steady renumbering c b
  unfold BoardPort.heldOff
  rw [(rescheduled_kept renumbering c b).2, hsteady.wait, hsteady.abort]

theorem reordered_clock (renumbering : Bool) (s : State) : (s.reordered renumbering).clock = s.clock := by
  unfold reordered
  split <;> simp

/-! #### A CUE packet that waits -/

/-- N_b waits on the port: its packet is not due, or the line is taken or held off, and its latest start is
ahead. -/
structure Awaits (p : Port) (sc : Schedule) (s : State) : Prop where
  sched : (s.port p).sched = some sc
  latest : past sc.latest s.now = false
  quiet : sc.due = false ∨ (s.port p).heldOff

theorem heldOff_finishLines (h : (s.port p).heldOff) : (s.finishLines.port p).heldOff := by
  rw [finishLines_port_of_heldOff h, heldOff_expirePort]
  exact h

/-- It waits on at the end of an event. -/
theorem Awaits.finish {sc : Schedule} (h : s.Awaits p sc) :
    s.finishLines.Awaits p sc ∧ (s.finishLines.port p).skipCount = (s.port p).skipCount := by
  have honly (sc' : Schedule) (hsc' : (s.port p).sched = some sc') : sc' = sc :=
    Option.some.inj (hsc'.symm.trans h.sched)
  have hlatest : past sc.latest s.finishLines.now = false := by
    rw [show s.finishLines.now = s.now by simp [now]]
    exact h.latest
  obtain hdue | hheld := h.quiet
  · obtain ⟨hsched, hskip⟩ := finishLines_sched_of_notDue (s := s) (p := p) fun sc' hsc' => by
      rw [honly sc' hsc']
      exact ⟨hdue, h.latest⟩
    exact ⟨⟨hsched.trans h.sched, hlatest, .inl hdue⟩, hskip⟩
  · obtain ⟨hsched, hskip⟩ := finishLines_sched_of_heldOff hheld fun sc' hsc' => by
      rw [honly sc' hsc']
      exact h.latest
    exact ⟨⟨hsched.trans h.sched, hlatest, .inr (heldOff_finishLines hheld)⟩, hskip⟩

theorem Awaits.alike {t : State} {sc : Schedule} (h : s.Awaits p sc) (halike : (s.port p).Alike (t.port p))
    (hnow : t.now = s.now) : t.Awaits p sc :=
  ⟨halike.sched.trans h.sched, by rw [hnow]; exact h.latest, h.quiet.imp_right halike.heldOff.mpr⟩

/-- Where no packet is cut, N_b takes the instants of the frame start and waits on. -/
theorem frameStart_sched {sc : Schedule} (hlost : ∀ p, (s.port p).goesLost = false) (hst : s.ctrl.st ≠ .rampOut)
    (hexpires : s.expires = false)
    (hsched : (rescheduled s.clock.renumber s.clock.frameStart (s.port p)).sched = some sc)
    (hlatest : past sc.latest s.now = false) (hquiet : sc.due = false ∨ (s.port p).heldOff) :
    (s.frameStart.port p).sched = some sc ∧ (s.frameStart.port p).skipCount = (s.port p).skipCount ∧
      ∀ fl, (s.port p).inFlight = some fl → (s.frameStart.port p).inFlight = some fl := by
  obtain ⟨v, w, hv, hw, hframe⟩ := frameStart_steps True s fun _ => ⟨hlost, hst, hexpires⟩
  have hstart : s.clockFrameStart.port p = s.port p := port_of_ports_eq (by simp) p
  have hvport : (s.port p).Alike (v.port p) := hstart ▸ hv.ports trivial p
  have hvclock : v.clock = s.clock.frameStart := by simpa using hv.clock
  have hport : (v.reordered s.clock.renumber).port p =
      rescheduled s.clock.renumber s.clock.frameStart (v.port p) := by rw [reordered_port, hvclock]
  have hnow : (v.reordered s.clock.renumber).now = s.now := by
    simp [now, reordered_clock, hvclock]
  have hwaits : (v.reordered s.clock.renumber).Awaits p sc :=
    ⟨by rw [hport, rescheduled_sched_congr hvport, hsched], by rw [hnow]; exact hlatest,
      hquiet.imp_right fun hheld => by
        rw [hport]
        exact (heldOff_rescheduled _ _ _).mpr (hvport.heldOff.mpr hheld)⟩
  obtain ⟨hdelivered, hskip⟩ := hwaits.finish
  have hwport := hw.ports trivial p
  have hwnow : w.now = (v.deliveryFrameStart s.clock.renumber).now := congrArg Clock.cueTime hw.clock
  obtain ⟨hend, hskip'⟩ := (hdelivered.alike hwport hwnow).finish
  have hkept := rescheduled_kept s.clock.renumber s.clock.frameStart (v.port p)
  have htport : s.frameStart.port p = w.finishLines.port p := by
    rw [hframe, kick_port]
    rfl
  rw [htport]
  refine ⟨hend.sched, ?_, fun fl hfl => ?_⟩
  · calc (w.finishLines.port p).skipCount = (w.port p).skipCount := hskip'
      _ = ((v.deliveryFrameStart s.clock.renumber).port p).skipCount := hwport.skipCount
      _ = ((v.reordered s.clock.renumber).port p).skipCount := hskip
      _ = (v.port p).skipCount := by rw [hport, hkept.1]
      _ = (s.port p).skipCount := hvport.skipCount
  · have hfirst : ((v.reordered s.clock.renumber).port p).inFlight = some fl := by
      rw [hport, hkept.2, hvport.inFlight, hfl]
    have hdelivery : ((v.deliveryFrameStart s.clock.renumber).port p).inFlight = some fl :=
      finishLines_of_inFlight hfirst
    exact finishLines_of_inFlight (hwport.inFlight.trans hdelivery)

/-! #### Destinations at the frame start that renumbers -/

end State

/-- A destination that waits or is due. -/
def Destination.Unsent (d : Destination) : Prop := (∃ r l, d.state = .waiting r l) ∨ ∃ l, d.state = .due l

/-- What the renumbering makes of a destination: one whose packet is not in flight is DROPPED (R158). -/
structure Destination.Flushed (d d' : Destination) : Prop where
  port : d'.port = d.port
  dropped : d.Unsent ∨ d.state = .dropped → d'.state = .dropped
  inFlight : ∀ l, d.state = .inFlight l → d' = d

/-- What is left of it once the frame start is over. -/
structure Destination.Gone (plain : Prop) (d d' : Destination) : Prop where
  port : d'.port = d.port
  dropped : d.Unsent → d'.state = .dropped
  inFlight : plain → ∀ l, d.state = .inFlight l → d'.state = .inFlight l

namespace Destination

variable {d d' d'' : Destination} {s : State}

theorem flushed_dropUnsent (d : Destination) : d.Flushed d.dropUnsent := by
  refine ⟨?_, fun h => ?_, fun l h => ?_⟩
  · unfold dropUnsent drop
    split
    · rfl
    · split <;> rfl
  · obtain (⟨r, l, h⟩ | ⟨l, h⟩) | h := h <;> simp [dropUnsent, drop, pending, h]
  · simp [dropUnsent, h]

theorem flushed_of_final (h : d.pending = false) : d.Flushed d := by
  refine ⟨rfl, fun hd => ?_, fun _ _ => rfl⟩
  obtain (⟨r, l, hd⟩ | ⟨l, hd⟩) | hd := hd
  · simp [pending, hd] at h
  · simp [pending, hd] at h
  · exact hd

theorem Flushed.finish (h : d.Flushed d') (h' : d'.Finishes s d'') : d.Flushed d'' := by
  refine ⟨h'.port.trans h.port, fun hd => ?_, fun l hl => ?_⟩
  · have hdropped := h.dropped hd
    rwa [h'.eq_of_not_due (by simp [hdropped])]
  · rw [h'.eq_of_not_due (by simp [h.inFlight l hl, hl]), h.inFlight l hl]

/-- The flush, with the other blocks before or after it and the end of the event. -/
theorem gone_of_flushed {plain : Prop} {d₁ d₂ d₃ : Destination} (hdrops : d.Drops d₁) (hkept : plain → d₁ = d)
    (hflushed : d₁.Flushed d₂) (hdrops' : d₂.Drops d₃) (hkept' : plain → d₃ = d₂) (hfin : d₃.Finishes s d') :
    d.Gone plain d' := by
  have hport₁ : d₁.port = d.port := hdrops.port
  have hport₃ : d₃.port = d₂.port := hdrops'.port
  refine ⟨hfin.port.trans (hport₃.trans (hflushed.port.trans hport₁)), fun hunsent => ?_, fun hplain l hl => ?_⟩
  · have hd₁ : d₁.Unsent ∨ d₁.state = .dropped := by
      obtain rfl | ⟨-, hdropped⟩ := hdrops
      · exact .inl hunsent
      · exact .inr hdropped
    have hd₂ := hflushed.dropped hd₁
    have hd₃ : d₃.state = .dropped := by
      obtain rfl | ⟨-, hdropped⟩ := hdrops'
      · exact hd₂
      · exact hdropped
    rwa [hfin.eq_of_not_due (by simp [hd₃])]
  · obtain rfl := hkept hplain
    obtain rfl := hflushed.inFlight l hl
    obtain rfl := hkept' hplain
    rw [hfin.eq_of_not_due (by simp [hl]), hl]

end Destination

namespace State

variable {s : State} {p : Port}

theorem reordered_of_renumbering (s : State) :
    ∃ u : State, u.queue = s.queue ∧ s.reordered true = u.flushUnsent := by
  unfold reordered
  exact ⟨_, by simp, rfl⟩

theorem follows_deliveryFrameStart_renumbering (s : State) :
    Follows (fun _ => Destination.Flushed) s (s.deliveryFrameStart true) := by
  have hflush : Follows (fun _ => Destination.Flushed) s (s.reordered true) := by
    obtain ⟨u, hqueue, hu⟩ := s.reordered_of_renumbering
    have hfollows : Follows (fun _ => Destination.Flushed) u u.flushUnsent :=
      follows_mapDests_settle fun _ => Destination.flushed_dropUnsent
    rw [hu]
    unfold Follows at hfollows ⊢
    rwa [hqueue] at hfollows
  exact (hflush.trans (Destination.Finishes.refl _) (follows_finishLines _)).mono
    fun _ _ _ ⟨_, h, h'⟩ => h.finish h'

/-- The other blocks drop destinations, or touch none where `plain` holds. -/
theorem Beside.follows {plain : Prop} {t : State} (h : Beside plain s t) :
    Follows (fun _ d d' => d.Drops d' ∧ (plain → d' = d)) s t := by
  by_cases hplain : plain
  · exact .of_queue_eq (fun _ _ => ⟨.refl _, fun _ => rfl⟩) (h.queue hplain)
  · exact List.Forall₂.imp (fun _ _ he => he.toFollows.mono fun _ _ hd => ⟨hd, fun hyes => absurd hyes hplain⟩) h.drops

/-- The flush after the other blocks: what those have finished has nothing PENDING left. -/
theorem Beside.flushed {plain : Prop} {t u : State} (h : Beside plain s t)
    (h' : Follows (fun _ => Destination.Flushed) t u) :
    Follows (fun _ d d' => ∃ d₁, (d.Drops d₁ ∧ (plain → d₁ = d)) ∧ d₁.Flushed d') s u := by
  by_cases hplain : plain
  · unfold Follows at h'
    rw [h.queue hplain] at h'
    exact Follows.mono (R := fun _ => Destination.Flushed) h' fun _ d _ hd => ⟨d, ⟨.refl d, fun _ => rfl⟩, hd⟩
  · refine List.Forall₂.imp (fun e e'' ⟨e', he, he'⟩ => ?_) (forall₂_comp h.drops h')
    have hdone (ha : e.st = .active) (hd : e'.st ≠ .active) (d : Destination) (hmem : d ∈ e'.dests) : d.Flushed d :=
      Destination.flushed_of_final (he.closed ha hd d hmem)
    exact (he.toFollows.trans_frame (fun _ => Destination.Flushed) hdone he').mono
      fun _ _ ⟨d₁, hdrops, hflushed⟩ => ⟨d₁, ⟨hdrops, fun hyes => absurd hyes hplain⟩, hflushed⟩

/-- At the frame start that renumbers every PENDING destination not in flight is DROPPED (R158). -/
theorem follows_frameStart_renumbering (plain : Prop) (hrenumber : s.clock.renumber = true)
    (hplain : plain → (∀ p, (s.port p).goesLost = false) ∧ s.ctrl.st ≠ .rampOut ∧ s.expires = false) :
    Follows (fun _ => Destination.Gone plain) s s.frameStart := by
  obtain ⟨v, w, hv, hw, hframe⟩ := frameStart_steps plain s hplain
  rw [hrenumber] at hw
  have hdelivered := hv.flushed v.follows_deliveryFrameStart_renumbering
  have hall := (hdelivered.trans (fun d => ⟨.refl d, fun _ => rfl⟩) hw.follows).trans
    (Destination.Finishes.refl w) (follows_finishLines w)
  have hqueue : s.clockFrameStart.queue = s.queue := by simp
  have hend : s.frameStart.queue = w.finishLines.queue := by simp [hframe]
  unfold Follows at hall ⊢
  rw [hqueue] at hall
  rw [hend]
  refine List.Forall₂.imp (fun e e' he => he.mono ?_) hall
  rintro d d' ⟨d₃, ⟨d₂, ⟨d₁, ⟨hdrops, hkept⟩, hflushed⟩, hdrops', hkept'⟩, hfin⟩
  exact Destination.gone_of_flushed hdrops hkept hflushed hdrops' hkept' hfin

end State
end Sys2Proof.Machine

/-! ### The instants that a frame start forms (R125, R126, R132, R133, R145, R147) -/

namespace Sys2Proof.Machine

/-! #### Instants at a signed distance -/

theorem diff_offset {now : Instant} {x : Int} (h : -2 ^ 31 < x) (h' : x < 2 ^ 31) :
    diff now (now + BitVec.ofInt 32 x) = -x := by
  have hself : diff now now = 0 := by simp [diff]
  rw [diff_add_ofInt (by rw [hself]; omega) (by rw [hself]; omega), hself, zero_sub]

theorem reached_offset {now : Instant} {x : Int} (h : -2 ^ 31 < x) (h' : x < 2 ^ 31) :
    reached (now + BitVec.ofInt 32 x) now = decide (x ≤ 0) := by
  rw [reached, diff_offset h h']
  exact decide_eq_decide.mpr (by omega)

theorem past_offset {now : Instant} {x : Int} (h : -2 ^ 31 < x) (h' : x < 2 ^ 31) :
    past (now + BitVec.ofInt 32 x) now = decide (x < 0) := by
  rw [past, diff_offset h h']
  exact decide_eq_decide.mpr (by omega)

namespace BoardPort

variable {c : Clock} {b : BoardPort}

/-! #### The first frame ahead (R126) -/

/-- The latest start of frame `n` counted from the start of frame 0, from that start. -/
def latestOffset (c : Clock) (b : BoardPort) (n : Nat) : Int :=
  n * c.set.frameLen + c.set.presentPhase - b.latCue

theorem latest_eq_offset (now : Instant) (c : Clock) (b : BoardPort) (n : Nat) :
    now + BitVec.ofNat 32 (n * c.set.frameLen) + BitVec.ofNat 32 c.set.presentPhase - BitVec.ofNat 32 b.latCue =
      now + BitVec.ofInt 32 (b.latestOffset c n) := by
  unfold latestOffset
  rw [sub_eq_add_neg ((n : Int) * _ + _), BitVec.ofInt_add, BitVec.ofInt_add, BitVec.ofInt_neg, ← Nat.cast_mul,
    BitVec.ofInt_natCast, BitVec.ofInt_natCast, BitVec.ofInt_natCast]
  abel

theorem release_eq_offset (now : Instant) (c : Clock) (b : BoardPort) (n : Nat) :
    now + BitVec.ofInt 32 (b.latestOffset c n) - BitVec.ofNat 32 b.cfg.guard =
      now + BitVec.ofInt 32 (b.latestOffset c n - b.cfg.guard) := by
  rw [sub_eq_add_neg (b.latestOffset c n), BitVec.ofInt_add, BitVec.ofInt_neg, BitVec.ofInt_natCast]
  abel

/-- At the start of frame 0 the scheduler takes the first frame whose release is ahead, its packet not due. -/
theorem takeFirst_at_zero (hcurrent : c.current = 0) (hstart : c.start = c.cueTime) (hset : c.set.inRange = true)
    (hlat : b.latCue ≤ 60000) (hguard : b.cfg.guard ≤ 2000) :
    let latest (n : Nat) : Instant :=
      c.cueTime + BitVec.ofNat 32 (n * c.set.frameLen) + BitVec.ofNat 32 c.set.presentPhase -
        BitVec.ofNat 32 b.latCue
    let release (n : Nat) : Instant := latest n - BitVec.ofNat 32 b.cfg.guard
    ∃ n, (b.takeFirst c).sched = some ⟨BitVec.ofNat 16 n, release n, latest n, false⟩ ∧
      past (latest n) c.cueTime = false ∧ reached (release n) c.cueTime = false ∧
      ∀ j < n, reached (release j) c.cueTime = true := by
  intro latest release
  obtain ⟨hlen, hlen', hphase⟩ : 1000 ≤ c.set.frameLen ∧ c.set.frameLen ≤ 20000 ∧ c.set.presentPhase < c.set.frameLen := by
    simp only [ClockSettings.inRange, decide_eq_true_eq] at hset
    obtain ⟨hlow, hhigh, hphase, -⟩ := hset
    exact ⟨hlow, hhigh, hphase⟩
  have hpresentation {n : Nat} (hn : n ≤ 63) : c.presentation (BitVec.ofNat 16 n) =
      some (c.cueTime + BitVec.ofNat 32 (n * c.set.frameLen) + BitVec.ofNat 32 c.set.presentPhase) := by
    have hdist : (BitVec.ofNat 16 n - c.current).toNat = n := by
      rw [hcurrent, sub_zero, BitVec.toNat_ofNat]
      omega
    rw [Clock.presentation_of_ahead (by omega), predictedStart, hdist, hstart]
  have hrelease {n : Nat} (hn : n ≤ 63) : b.releaseOf c (c.current + BitVec.ofNat 16 n) = release n := by
    rw [hcurrent, zero_add, releaseOf, Clock.presentationOr, hpresentation hn]
    rfl
  have hlatest (n : Nat) : latest n = c.cueTime + BitVec.ofInt 32 (b.latestOffset c n) := latest_eq_offset ..
  have hrelease' (n : Nat) : release n = c.cueTime + BitVec.ofInt 32 (b.latestOffset c n - b.cfg.guard) := by
    simp only [release, hlatest]
    exact release_eq_offset ..
  have hbounds {n : Nat} (hn : n ≤ 63) : -2 ^ 31 < b.latestOffset c n - b.cfg.guard ∧ b.latestOffset c n < 2 ^ 31 := by
    have hmul : n * c.set.frameLen ≤ 63 * 20000 := Nat.mul_le_mul hn hlen'
    rw [latestOffset, ← Nat.cast_mul]
    omega
  have hreached {n : Nat} (hn : n ≤ 63) :
      reached (release n) c.cueTime = decide (b.latestOffset c n - b.cfg.guard ≤ 0) := by
    obtain ⟨hlow, hhigh⟩ := hbounds hn
    rw [hrelease', reached_offset hlow (by omega)]
  have hlast : reached (b.releaseOf c (c.current + BitVec.ofNat 16 63)) c.cueTime = false := by
    rw [hrelease le_rfl, hreached le_rfl, decide_eq_false_iff_not, latestOffset]
    push_cast
    omega
  obtain ⟨n, hn, hfound, hahead, hbefore⟩ := firstAhead_spec (fuel := Config.frameFuel) (by decide) hlast
  rw [hrelease hn] at hahead
  have hfound' : b.firstAhead c Config.frameFuel c.current = BitVec.ofNat 16 n := by rw [hfound, hcurrent, zero_add]
  have hsched : (b.takeFirst c).sched = some ⟨BitVec.ofNat 16 n, release n, latest n, false⟩ := by
    rw [takeFirst, hfound', schedule_of_presentation false (hpresentation hn)]
    have hnot : past (b.cueRelease (c.cueTime + BitVec.ofNat 32 (n * c.set.frameLen) +
        BitVec.ofNat 32 c.set.presentPhase)) c.cueTime = false := past_of_not_reached hahead
    rw [hnot]
    rfl
  refine ⟨n, hsched, ?_, hahead, fun j hj => hrelease (n := j) (by omega) ▸ hbefore j hj⟩
  obtain ⟨hlow, hhigh⟩ := hbounds hn
  rw [hreached hn, decide_eq_false_iff_not] at hahead
  rw [hlatest, past_offset (by omega) hhigh, decide_eq_false_iff_not]
  omega

end BoardPort

namespace State

variable {s : State} {p : Port}

/-! #### Destinations at any other frame start (R145, R147) -/

/-- The schedulers have their instants anew when the queue takes the frame start. -/
theorem reordered_of_not_renumbering (s : State) :
    ∃ u : State, u.queue = s.queue ∧ u.clock = s.clock ∧ (∀ p, u.port p = rescheduled false s.clock (s.port p)) ∧
      s.reordered false = u.refreshEvents fun _ => true := by
  refine ⟨((s.schedulerFrameStart false .vision).schedulerFrameStart false .sound).schedulerFrameStart false .cab,
    by simp, by simp, fun p => ?_, rfl⟩
  rw [← reordered_port]
  exact (port_of_ports_eq (by simp [reordered]) p).symm

/-- The destinations on every port with their instants formed anew by the clock of the next frame. -/
def Retimes (s t : State) : Prop :=
  Follows (fun e d d' => ∀ p, d.Retimed s.clock.frameStart p (s.port p) e.frame d') s t

theorem Retimes.of_queue_eq {t u : State} (h : s.Retimes t) (hqueue : u.queue = t.queue) : s.Retimes u := by
  unfold Retimes Follows at h ⊢
  rwa [hqueue]

theorem Retimes.finish {t : State} (h : s.Retimes t) (hclock : t.clock = s.clock.frameStart)
    (hheld : ∀ p, (s.port p).heldOff → (t.port p).heldOff) : s.Retimes t.finishLines :=
  (Follows.trans (Destination.Finishes.refl t) h (follows_finishLines t)).mono fun _ _ _ ⟨_, hd, hfin⟩ p =>
    (hd p).finish (congrArg Clock.cueTime hclock) (hheld p) hfin

/-- Where no packet is cut, the destinations ahead have their instants formed anew. -/
theorem retimes_frameStart (hrenumber : s.clock.renumber = false)
    (hlost : ∀ p, (s.port p).goesLost = false) (hst : s.ctrl.st ≠ .rampOut) (hexpires : s.expires = false) :
    s.Retimes s.frameStart := by
  obtain ⟨v, w, hv, hw, hframe⟩ := frameStart_steps True s fun _ => ⟨hlost, hst, hexpires⟩
  rw [hrenumber] at hw
  have hvport (p : Port) : (s.port p).Alike (v.port p) := by
    have hstart : s.clockFrameStart.port p = s.port p := port_of_ports_eq (by simp) p
    exact hstart ▸ hv.ports trivial p
  have hvclock : v.clock = s.clock.frameStart := by simpa using hv.clock
  have hvqueue : v.queue = s.queue := by simpa using hv.queue trivial
  have hreordered : s.Retimes (v.reordered false) := by
    obtain ⟨u, huqueue, huclock, huport, hu⟩ := v.reordered_of_not_renumbering
    have hsteady (p : Port) : (v.port p).Steady (u.port p) := by
      rw [huport]
      exact rescheduled_steady _ _ _
    have hrefresh : Follows (fun e d d' => ∀ p, d.Retimed s.clock.frameStart p (s.port p) e.frame d') u
        (u.refreshEvents fun _ => true) := follows_mapDests_settle fun e d p => by
      rw [if_pos rfl]
      exact Destination.retimed_refresh (huclock.trans hvclock) ((hsteady p).latEvent.trans (hvport p).latEvent)
        (by rw [(hsteady p).cfg, (hvport p).cfg]) rfl
    unfold Follows at hrefresh
    rw [huqueue, hvqueue] at hrefresh
    rw [hu]
    exact hrefresh
  have hheld (p : Port) (h : (s.port p).heldOff) : ((v.reordered false).port p).heldOff := by
    rw [reordered_port]
    exact (heldOff_rescheduled _ _ _).mpr ((hvport p).heldOff.mpr h)
  have hdelivered : s.Retimes (v.deliveryFrameStart false) :=
    hreordered.finish ((reordered_clock _ _).trans hvclock) hheld
  have hwclock : w.clock = s.clock.frameStart := by simpa [hvclock] using hw.clock
  refine Retimes.of_queue_eq (t := w.finishLines) ?_ (by simp [hframe])
  exact (hdelivered.of_queue_eq (hw.queue trivial)).finish hwclock fun p h =>
    (hw.ports trivial p).heldOff.mpr (heldOff_finishLines (hheld p h))

/-! #### The FRAME_START record (R16, R182) -/

theorem rampStep_st (h : s.ctrl.st ≠ .setup) : s.rampStep.ctrl.st ≠ .setup := by
  by_cases hin : s.ctrl.st = .rampIn
  · rw [rampStep_of_rampIn hin]
    split <;> simp [hin]
  by_cases hout : s.ctrl.st = .rampOut
  · rw [rampStep_of_rampOut hout]
    split <;> simp [hout]
  · rwa [rampStep_of_steady hin hout]

/-- No frame start brings the hub to SETUP. -/
theorem controllerFrameStart_st (expired : Bool) (h : s.ctrl.st ≠ .setup) :
    (s.controllerFrameStart expired).ctrl.st ≠ .setup := by
  cases expired with
  | true => obtain h' | h' := controllerFrameStart_expired h <;> simp [h']
  | false => exact rampStep_st h

/-- The record that is handed on names the hub state before or after the controller's step. -/
theorem recordAndStep_frameStart (expired : Bool) (hst : s.ctrl.st ≠ .setup) (hbusy : s.link.tx ≠ .idle) :
    ∃ hub, (s.recordAndStep expired).link.frameStart = some ⟨s.clock.current, s.clock.st, s.clock.lastE, hub⟩ ∧
      (hub = s.ctrl.st ∨ hub = (s.recordAndStep expired).ctrl.st) := by
  have hhand {u : State} (hu : u.ctrl.st ≠ .setup) (hubusy : u.link.tx ≠ .idle) :
      u.handFrameStart.link.frameStart = some u.frameStartRecord := by
    unfold handFrameStart
    rw [if_neg hu, placeFrameStart_of_busy _ hubusy]
  unfold recordAndStep
  split
  · have hnotes := s.handFrameStart.notes_controllerFrameStart expired
    refine ⟨s.ctrl.st, ?_, .inl rfl⟩
    rw [hnotes.frameStart (s.notes_handFrameStart.busy hbusy), hhand hst hbusy]
    rfl
  · have hbusy' := (s.notes_controllerFrameStart expired).busy hbusy
    refine ⟨(s.controllerFrameStart expired).ctrl.st, ?_, .inr (by simp)⟩
    rw [hhand (controllerFrameStart_st expired hst) hbusy']
    simp [frameStartRecord]

theorem sourcesFrameStart_frameStart {c : Clock} {hub : HubState} (renumbering expired : Bool)
    (hclock : s.clock = c) (hhub : s.ctrl.st = hub) (hst : hub ≠ .setup) (hbusy : s.link.tx ≠ .idle) :
    ∃ named, (s.sourcesFrameStart renumbering expired).link.frameStart = some ⟨c.current, c.st, c.lastE, named⟩ ∧
      (named = hub ∨ named = (s.sourcesFrameStart renumbering expired).ctrl.st) := by
  subst hclock hhub
  obtain ⟨named, hrecord, hnamed⟩ := recordAndStep_frameStart expired hst hbusy
  exact ⟨named, hrecord, by simpa [sourcesFrameStart] using hnamed⟩

/-- The two orders of a frame start, by the choice in force (log 5). -/
theorem frameStart_order (s : State) :
    s.frameStart =
        ((((s.clockFrameStart.deliveryFrameStart s.clock.renumber).sourcesFrameStart s.clock.renumber
          s.expires).echoesFrameStart).finishLines.nextChoice).kick ∨
      s.frameStart =
        ((((s.clockFrameStart.sourcesFrameStart s.clock.renumber s.expires).echoesFrameStart).deliveryFrameStart
          s.clock.renumber).finishLines.nextChoice).kick := by
  unfold frameStart
  dsimp only
  split
  · exact .inl rfl
  · exact .inr rfl

/-- A busy transmitter finds the FRAME_START of the frame that begins in its slot. -/
theorem frameStart_record (hst : s.ctrl.st ≠ .setup) (hbusy : s.link.tx ≠ .idle) :
    ∃ named,
      s.frameStart.link.frameStart =
        some ⟨s.clock.frameStart.current, s.clock.frameStart.st, s.clock.frameStart.lastE, named⟩ ∧
      ((∀ p, (s.port p).goesLost = false) → named = s.ctrl.st ∨ named = s.frameStart.ctrl.st) := by
  have hechoes (u : State) (hports : ∀ p, (s.port p).Steady (u.port p)) (hlost : ∀ p, (s.port p).goesLost = false) :
      u.echoesFrameStart.ctrl = u.ctrl := by
    rw [echoesFrameStart_eq fun p => (BoardPort.goesLost_of_steady (hports p)).trans (hlost p)]
  have hclock (p : Port) : (s.port p).Steady (s.clockFrameStart.port p) := steady_of_ports_eq (by simp) p
  have hstart := s.notes_clockFrameStart.busy hbusy
  have hend (u : State) (hu : u.link.tx ≠ .idle) :
      (u.finishLines.nextChoice).kick.link.frameStart = u.link.frameStart := by
    have hfinish := u.notes_finishLines
    exact ((notes_kick _ []).frameStart (hfinish.busy hu)).trans (hfinish.frameStart hu)
  obtain horder | horder := s.frameStart_order
  · rw [horder]
    have hbusy' := (s.clockFrameStart.notes_deliveryFrameStart s.clock.renumber).busy hstart
    have hsteady (p : Port) := (hclock p).trans (deliveryFrameStart_steady s.clock.renumber s.clockFrameStart p)
    obtain ⟨named, hrecord, hnamed⟩ := sourcesFrameStart_frameStart (c := s.clock.frameStart) (hub := s.ctrl.st)
      s.clock.renumber s.expires (s := s.clockFrameStart.deliveryFrameStart s.clock.renumber) (by simp) (by simp)
      hst hbusy'
    generalize s.clockFrameStart.deliveryFrameStart s.clock.renumber = u at hbusy' hsteady hrecord hnamed
    have hsources := (u.notes_sourcesFrameStart s.clock.renumber s.expires).busy hbusy'
    have hechoesNotes := (u.sourcesFrameStart s.clock.renumber s.expires).notes_echoesFrameStart
    refine ⟨named, ?_, fun hlost => ?_⟩
    · exact (hend _ (hechoesNotes.busy hsources)).trans ((hechoesNotes.frameStart hsources).trans hrecord)
    · have hctrl := hechoes (u.sourcesFrameStart s.clock.renumber s.expires)
        (fun p => (hsteady p).trans (sourcesFrameStart_steady s.clock.renumber s.expires u p)) hlost
      simpa [hctrl] using hnamed
  · rw [horder]
    obtain ⟨named, hrecord, hnamed⟩ := sourcesFrameStart_frameStart (c := s.clock.frameStart) (hub := s.ctrl.st)
      s.clock.renumber s.expires (s := s.clockFrameStart) (by simp) (by simp) hst hstart
    have hsteady (p : Port) :=
      (hclock p).trans (sourcesFrameStart_steady s.clock.renumber s.expires s.clockFrameStart p)
    have hsources := (s.clockFrameStart.notes_sourcesFrameStart s.clock.renumber s.expires).busy hstart
    generalize s.clockFrameStart.sourcesFrameStart s.clock.renumber s.expires = u at hsources hsteady hrecord hnamed
    have hechoesNotes := u.notes_echoesFrameStart
    have hdelivery := u.echoesFrameStart.notes_deliveryFrameStart s.clock.renumber
    have hbusy' := hechoesNotes.busy hsources
    refine ⟨named, ?_, fun hlost => ?_⟩
    · exact (hend _ (hdelivery.busy hbusy')).trans
        ((hdelivery.frameStart hbusy').trans ((hechoesNotes.frameStart hsources).trans hrecord))
    · have hctrl := hechoes u hsteady hlost
      simpa [hctrl] using hnamed

end State
end Sys2Proof.Machine

/-! ### The frame start (R2 to R4, R16, R132, R133, R145, R147, R158) -/

namespace Sys2Proof.Machine

theorem Clock.countFrame_renumber {c : Clock} (captured : Bool) (h : c.renumber = false) :
    (c.countFrame captured).renumber = false := by
  unfold countFrame
  cases c.st <;> dsimp only
  case free => exact h
  case acquire => split <;> exact h
  case locked =>
    split
    · exact h
    · split <;> exact h
  case holdover =>
    split
    · rfl
    · split <;> exact h

theorem Clock.frameStart_renumber (c : Clock) : c.frameStart.renumber = false :=
  countFrame_renumber c.captured rfl

/-- What the frame start writes of the frame that begins (R2, R3). -/
theorem Clock.frameStart_begun (c : Clock) :
    c.frameStart.ring = c.nextRing ∧ c.frameStart.captured = false ∧ c.frameStart.trim = 0 ∧
      c.frameStart.frameEnd = c.cueTime + micro c.set.frameLen ∧ c.frameStart.lastE = c.lastE := by
  simp [frameStart, beginFrame]

namespace State

variable {s : State}

theorem rescheduled_of_renumbering {b : BoardPort} {c : Clock} {sc : Schedule} (h : b.sched = some sc) :
    rescheduled true c b = b.takeFirst c := by
  simp [rescheduled, h]

theorem rescheduled_of_not_renumbering {b : BoardPort} {c : Clock} {sc : Schedule} (h : b.sched = some sc) :
    (rescheduled false c b).sched = some (b.schedule c sc.next sc.due) := by
  rw [← BoardPort.reform_sched h]
  simp [rescheduled, h]

@[simp] theorem frameStart_choices (s : State) : s.frameStart.choices = s.choices.tail := by
  obtain h | h := s.frameStart_order <;> rw [h] <;> simp [nextChoice]

@[simp] theorem frameStart_discards (s : State) : s.frameStart.discards = s.discards := by
  obtain h | h := s.frameStart_order <;> rw [h] <;> simp

theorem expires_of_plain (h : s.clock.st ≠ .holdover) : s.expires = false := by
  simp [expires, h]

end State
end Sys2Proof.Machine

section
open Sys2Proof Sys2Proof.Machine

/-- Settles O6: the clock and the record of the frame that begins, and what the schedulers and the destinations take
from it. -/
theorem frameStartBeginsTheNextFrame : Obligations.FrameStartBeginsTheNextFrame := by
  unfold Obligations.FrameStartBeginsTheNextFrame
  refine ⟨fun s hcomes => ?_, fun s hcomes hrenumber => ?_, fun s hcomes hrenumber hplain hst => ?_⟩
  · have hexec := State.exec_frameStart_of_comes hcomes
    have hclock : (s.atInstant s.clock.frameEnd).frameStart.clock =
        ({ s.clock with cueTime := s.clock.frameEnd } : Clock).frameStart := State.frameStart_clock _
    obtain ⟨hring, hcaptured, htrim, hend, hlastE⟩ :=
      ({ s.clock with cueTime := s.clock.frameEnd } : Clock).frameStart_begun
    refine ⟨_, hexec, ?_, ?_, ?_, ?_, ?_, ?_, ?_, ?_, ?_, by simp [State.atInstant], by simp [State.atInstant],
      fun hst hbusy => ?_⟩
    · rw [hclock, Clock.frameStart_cueTime]
    · rw [hclock, Clock.frameStart_current]
      rfl
    · rw [hclock, hring]
      unfold Clock.nextRing Clock.nextFrame
      by_cases hrenumber : s.clock.renumber = true
      · rw [if_pos hrenumber, if_pos hrenumber]
      · rw [if_neg hrenumber, if_neg hrenumber, if_neg hrenumber]
        rfl
    · rw [hclock, hcaptured]
    · rw [hclock, htrim]
    · rw [hclock, Clock.frameStart_renumber]
    · rw [hclock, hend]
      rfl
    · rw [hclock, Clock.frameStart_set]
    · rw [hclock, hlastE]
    · obtain ⟨named, hrecord, hnamed⟩ := State.frameStart_record (s := s.atInstant s.clock.frameEnd) hst hbusy
      refine ⟨?_, fun hplain r hr => ?_⟩
      · rw [hrecord, State.frameStart_clock]
        exact congrArg (fun e => some (_, _, e)) hlastE
      · rw [hrecord] at hr
        cases hr
        exact hnamed hplain.1
  · have hexec := State.exec_frameStart_of_comes hcomes
    set u := s.atInstant s.clock.frameEnd
    refine ⟨_, hexec, fun e he ha => ?_, fun hplain hst hset p sc hsched => ?_⟩
    · let plain : Prop := s.plainFrame ∧ s.ctrl.st ≠ .rampOut
      have hfollows := State.follows_frameStart_renumbering (s := u) plain hrenumber
        fun h => ⟨h.1.1, h.2, State.expires_of_plain h.1.2⟩
      obtain ⟨e', he', hf⟩ := hfollows.exists_entry he
      refine ⟨e', he', hf.tag, hf.frame, fun d hd => ?_⟩
      obtain ⟨d', hd', hgone⟩ := hf.exists_dest ha hd
      exact ⟨fun hunsent => ⟨d', hd', hgone.port, hgone.dropped hunsent⟩,
        fun hplain hst l hl => ⟨d', hd', hgone.port, hgone.inFlight ⟨hplain, hst⟩ l hl⟩⟩
    · intro b hlat hguard latest release
      have hcurrent : u.clock.frameStart.current = 0 := (Clock.frameStart_current _).trans (if_pos hrenumber)
      have hcue : u.clock.frameStart.cueTime = s.clock.frameEnd := Clock.frameStart_cueTime _
      have hsettings : u.clock.frameStart.set = s.clock.set := Clock.frameStart_set _
      have hfirst := BoardPort.takeFirst_at_zero (c := u.clock.frameStart) (b := b) hcurrent
        ((Clock.frameStart_start _).trans (Clock.frameStart_cueTime _).symm) (by rw [hsettings]; exact hset) hlat hguard
      rw [hcue, hsettings] at hfirst
      obtain ⟨n, hfound, hlatest, hahead, hbefore⟩ := hfirst
      have htakes : State.rescheduled u.clock.renumber u.clock.frameStart (u.port p) = b.takeFirst u.clock.frameStart := by
        rw [show u.clock.renumber = true from hrenumber]
        exact State.rescheduled_of_renumbering hsched
      have hlatest' : past (latest n) u.now = false := hlatest
      obtain ⟨hnext, hskip, hflight⟩ := State.frameStart_sched (s := u) (p := p)
        (sc := ⟨BitVec.ofNat 16 n, release n, latest n, false⟩) hplain.1 hst
        (State.expires_of_plain hplain.2) ((congrArg BoardPort.sched htakes).trans hfound) hlatest' (.inl rfl)
      refine ⟨⟨n, hnext, hahead, hbefore⟩, hskip, fun hsome => ?_⟩
      obtain ⟨fl, hfl⟩ := Option.ne_none_iff_exists'.mp hsome
      rw [hfl]
      exact hflight fl hfl
  · have hexec := State.exec_frameStart_of_comes hcomes
    set u := s.atInstant s.clock.frameEnd
    have hexpires : u.expires = false := State.expires_of_plain hplain.2
    intro now presentation ahead
    have hpresentation {f : Frame} (hf : ahead f) : u.clock.frameStart.presentation f = some (presentation f) := by
      have hcurrent : u.clock.frameStart.current = s.clock.current + 1 :=
        (Clock.frameStart_current _).trans (if_neg (by rw [show u.clock.renumber = false from hrenumber]; simp))
      rw [Clock.presentation_of_ahead (by rw [hcurrent]; exact hf), hcurrent, Clock.frameStart_start,
        Clock.frameStart_set]
      rfl
    refine ⟨_, hexec, fun p sc hsched hf hheld => ?_, fun e he ha hf => ?_⟩
    · intro latest release hlatest
      have hreform : (State.rescheduled u.clock.renumber u.clock.frameStart (u.port p)).sched =
          some ⟨sc.next, release, latest, sc.due || past release now⟩ := by
        rw [show u.clock.renumber = false from hrenumber, State.rescheduled_of_not_renumbering (b := u.port p) hsched,
          BoardPort.schedule_of_presentation _ (hpresentation hf), Clock.frameStart_cueTime]
        rfl
      have hlatest' : past latest u.now = false := hlatest
      exact (State.frameStart_sched (s := u) (p := p) hplain.1 hst hexpires hreform hlatest' (.inr hheld)).1
    · obtain ⟨e', he', hfollows⟩ := (State.retimes_frameStart (s := u) hrenumber hplain.1 hst hexpires).exists_entry he
      refine ⟨e', he', hfollows.tag, hfollows.frame, fun d hd => ?_⟩
      intro b latest release becomes
      obtain ⟨d', hd', hretimed⟩ := hfollows.exists_dest ha hd
      have hretimed' := hretimed d.port rfl _ (hpresentation hf)
      rw [Clock.frameStart_cueTime] at hretimed'
      obtain ⟨hwait, hdue, hstarted⟩ := hretimed'
      have hbecomes {state : DestState} (h : d' = { d with state := state }) : becomes state :=
        ⟨d', hd', by rw [h], by rw [h]⟩
      exact ⟨fun r l hl hahead => hbecomes (hwait r l hl hahead),
        fun l hl hstarts hheld hlatest => hbecomes (hdue l hl hstarts hheld hlatest),
        fun l hl hstarts hheld hlatest => hbecomes ((hstarted l hl hstarts hheld hlatest).trans (by rw [← hl]))⟩

end
